-- ==== Sys2Proof/Word.lean ====
section
/-! DEFINITION. The widths of the engine's values (spec/10_state.md: every register is 32 bits; key, block and index bytes are 8). -/

namespace Sys2Proof

/-- A 32-bit register or command word (10_state.md, preamble; R100). -/
abbrev Word := BitVec 32

/-- An 8-bit value: a key or block byte, an N or M operand, an RC4 entry (R14, R102, R46). -/
abbrev Byte := BitVec 8

/-- A DES subkey (R45). -/
abbrev Subkey := BitVec 48

end Sys2Proof
end

