-- ==== Sys2Proof/Syntax.lean ====
section
/-! DEFINITION. The 35 commands of spec/opcode_table.json (30_encoding.md R103), one constructor a row, with the operands each row
uses (N, then M; unsigned 8-bit, R102), and the assembler's source line (R109). -/

namespace Sys2Proof

/-- One command of R103. A command that uses no operand field has no argument. -/
inductive Instr where
  | nop
  | clear
  | aesKeyexp
  | aesEncblk
  | aesDecblk
  | aesAddrk (n : Byte)
  | aesSubbytes
  | aesShiftrows
  | aesMixcols
  | aesInvsubbytes
  | aesInvshiftrows
  | aesInvmixcols
  | aesAdddrk (n : Byte)
  | aesEncrnd (n : Byte)
  | aesEnclast
  | aesDecrnd (n : Byte)
  | aesDeclast
  | gfMul (a b : Byte)
  | gfXtime (a : Byte)
  | aesSbox (a : Byte)
  | aesInvsbox (a : Byte)
  | desKeysched
  | desEncblk
  | desDecblk
  | desIp
  | desRound (n : Byte)
  | desFp
  | desFeistel (n : Byte)
  | rc4Ksa
  | rc4Prga (n : Byte)
  | ccInit
  | ccQr (g : Byte)
  | ccDround
  | ccBlock
  | ccFeedfwd
deriving DecidableEq, Repr

/-- A line of a host program's `cmd` in the assembler's notation (R109): the mnemonic and its operands in the order N, M. -/
structure SourceLine where
  mnemonic : String
  operands : List Nat
deriving DecidableEq, Repr

end Sys2Proof
end

