-- ==== Sys2Proof/WellFormed.lean ====
section
/-! DEFINITION. What a legal command word and a legal source line are (30_encoding.md R101, R103 to R106, R109), written on their
own from the spec, apart from the decoder's table; the obligation DecodeAcceptsExactlyLegalWords says that the two agree. Every term of `Instr` is well-formed
by its types: an operand out of a command's range is no decode error but a BadOperand at execution (R102). -/

namespace Sys2Proof

/-- The four fields of format C (R101). -/
structure Fields where
  op  : Byte
  n   : Byte
  m   : Byte
  rsv : Byte
deriving DecidableEq, Repr

/-- R101: OP is bits 7:0, N bits 15:8, M bits 23:16 and RSV bits 31:24 of the command word. -/
def Fields.ofWord (w : Word) : Fields :=
  { op := w.extractLsb' 0 8, n := w.extractLsb' 8 8, m := w.extractLsb' 16 8, rsv := w.extractLsb' 24 8 }

/-- R103, R104: the OP values that are not reserved. -/
def Fields.opDefined (f : Fields) : Bool :=
  let o := f.op.toNat
  (o ≤ 0x01) || (0x10 ≤ o && o ≤ 0x1E) || (0x20 ≤ o && o ≤ 0x23) || (0x30 ≤ o && o ≤ 0x36) ||
    (0x50 ≤ o && o ≤ 0x51) || (0x70 ≤ o && o ≤ 0x74)

/-- R103, column "uses": the OP values whose command reads N. -/
def Fields.usesN (f : Fields) : Bool :=
  [0x13#8, 0x1A#8, 0x1B#8, 0x1D#8, 0x20#8, 0x21#8, 0x22#8, 0x23#8, 0x34#8, 0x36#8, 0x51#8, 0x71#8].contains f.op

/-- R103, column "uses": only GF.MUL reads M. -/
def Fields.usesM (f : Fields) : Bool := f.op == 0x20#8

/-- A legal command: RSV = 0 (R105), OP defined (R104), and an unused N or M is 0 (R106). -/
def Fields.wf (f : Fields) : Bool :=
  f.rsv == 0#8 && f.opDefined && (f.usesN || f.n == 0#8) && (f.usesM || f.m == 0#8)

/-- R103: each mnemonic and how many operands it takes. -/
def SourceLine.arities : List (String × Nat) :=
  [("NOP", 0), ("CLEAR", 0)] ++
  [("AES.KEYEXP", 0), ("AES.ENCBLK", 0), ("AES.DECBLK", 0), ("AES.ADDRK", 1), ("AES.SUBBYTES", 0), ("AES.SHIFTROWS", 0)] ++
  [("AES.MIXCOLS", 0), ("AES.INVSUBBYTES", 0), ("AES.INVSHIFTROWS", 0), ("AES.INVMIXCOLS", 0), ("AES.ADDDRK", 1)] ++
  [("AES.ENCRND", 1), ("AES.ENCLAST", 0), ("AES.DECRND", 1), ("AES.DECLAST", 0)] ++
  [("GF.MUL", 2), ("GF.XTIME", 1), ("AES.SBOX", 1), ("AES.INVSBOX", 1)] ++
  [("DES.KEYSCHED", 0), ("DES.ENCBLK", 0), ("DES.DECBLK", 0), ("DES.IP", 0), ("DES.ROUND", 1), ("DES.FP", 0), ("DES.FEISTEL", 1)] ++
  [("RC4.KSA", 0), ("RC4.PRGA", 1)] ++
  [("CC.INIT", 0), ("CC.QR", 1), ("CC.DROUND", 0), ("CC.BLOCK", 0), ("CC.FEEDFWD", 0)]

/-- R109: the assembler refuses an unknown mnemonic, a missing operand, an operand too many and an operand outside 0 to 255. -/
def SourceLine.wf (l : SourceLine) : Bool :=
  SourceLine.arities.contains (l.mnemonic, l.operands.length) && l.operands.all (· ≤ 255)

end Sys2Proof
end

