-- ==== Sys2Proof/Decode.lean ====
section
/-! DEFINITION. The decoder of a command word (30_encoding.md R108), total and rejecting by name; the encoder (R103); the assembler of a
source line (R109). -/

namespace Sys2Proof

/-- Why a word is an IllegalCommand, in the order R108 tests it. Each one completes with ERRCODE 5 (R122). -/
inductive DecodeError where
  /-- R105: RSV is not 0. -/
  | rsvNonzero
  /-- R104: the OP value is reserved. -/
  | reservedOp
  /-- R106: N is not 0 and the command does not use N. -/
  | unusedN
  /-- R106: M is not 0 and the command does not use M. -/
  | unusedM
deriving DecidableEq, Repr

/-- One row of R103's opcode map. -/
structure OpRow where
  op    : Byte
  name  : String
  usesN : Bool
  usesM : Bool
  instr : Byte → Byte → Instr

/-- R103, row by row. -/
def opTable : List OpRow :=
  [ { op := 0x00, name := "NOP", usesN := false, usesM := false, instr := fun _ _ => .nop },
    { op := 0x01, name := "CLEAR", usesN := false, usesM := false, instr := fun _ _ => .clear } ] ++
  [ { op := 0x10, name := "AES.KEYEXP", usesN := false, usesM := false, instr := fun _ _ => .aesKeyexp },
    { op := 0x11, name := "AES.ENCBLK", usesN := false, usesM := false, instr := fun _ _ => .aesEncblk },
    { op := 0x12, name := "AES.DECBLK", usesN := false, usesM := false, instr := fun _ _ => .aesDecblk },
    { op := 0x13, name := "AES.ADDRK", usesN := true, usesM := false, instr := fun n _ => .aesAddrk n },
    { op := 0x14, name := "AES.SUBBYTES", usesN := false, usesM := false, instr := fun _ _ => .aesSubbytes },
    { op := 0x15, name := "AES.SHIFTROWS", usesN := false, usesM := false, instr := fun _ _ => .aesShiftrows },
    { op := 0x16, name := "AES.MIXCOLS", usesN := false, usesM := false, instr := fun _ _ => .aesMixcols } ] ++
  [ { op := 0x17, name := "AES.INVSUBBYTES", usesN := false, usesM := false, instr := fun _ _ => .aesInvsubbytes },
    { op := 0x18, name := "AES.INVSHIFTROWS", usesN := false, usesM := false, instr := fun _ _ => .aesInvshiftrows },
    { op := 0x19, name := "AES.INVMIXCOLS", usesN := false, usesM := false, instr := fun _ _ => .aesInvmixcols },
    { op := 0x1A, name := "AES.ADDDRK", usesN := true, usesM := false, instr := fun n _ => .aesAdddrk n },
    { op := 0x1B, name := "AES.ENCRND", usesN := true, usesM := false, instr := fun n _ => .aesEncrnd n },
    { op := 0x1C, name := "AES.ENCLAST", usesN := false, usesM := false, instr := fun _ _ => .aesEnclast },
    { op := 0x1D, name := "AES.DECRND", usesN := true, usesM := false, instr := fun n _ => .aesDecrnd n },
    { op := 0x1E, name := "AES.DECLAST", usesN := false, usesM := false, instr := fun _ _ => .aesDeclast } ] ++
  [ { op := 0x20, name := "GF.MUL", usesN := true, usesM := true, instr := fun n m => .gfMul n m },
    { op := 0x21, name := "GF.XTIME", usesN := true, usesM := false, instr := fun n _ => .gfXtime n },
    { op := 0x22, name := "AES.SBOX", usesN := true, usesM := false, instr := fun n _ => .aesSbox n },
    { op := 0x23, name := "AES.INVSBOX", usesN := true, usesM := false, instr := fun n _ => .aesInvsbox n } ] ++
  [ { op := 0x30, name := "DES.KEYSCHED", usesN := false, usesM := false, instr := fun _ _ => .desKeysched },
    { op := 0x31, name := "DES.ENCBLK", usesN := false, usesM := false, instr := fun _ _ => .desEncblk },
    { op := 0x32, name := "DES.DECBLK", usesN := false, usesM := false, instr := fun _ _ => .desDecblk },
    { op := 0x33, name := "DES.IP", usesN := false, usesM := false, instr := fun _ _ => .desIp },
    { op := 0x34, name := "DES.ROUND", usesN := true, usesM := false, instr := fun n _ => .desRound n },
    { op := 0x35, name := "DES.FP", usesN := false, usesM := false, instr := fun _ _ => .desFp },
    { op := 0x36, name := "DES.FEISTEL", usesN := true, usesM := false, instr := fun n _ => .desFeistel n } ] ++
  [ { op := 0x50, name := "RC4.KSA", usesN := false, usesM := false, instr := fun _ _ => .rc4Ksa },
    { op := 0x51, name := "RC4.PRGA", usesN := true, usesM := false, instr := fun n _ => .rc4Prga n },
    { op := 0x70, name := "CC.INIT", usesN := false, usesM := false, instr := fun _ _ => .ccInit },
    { op := 0x71, name := "CC.QR", usesN := true, usesM := false, instr := fun n _ => .ccQr n },
    { op := 0x72, name := "CC.DROUND", usesN := false, usesM := false, instr := fun _ _ => .ccDround },
    { op := 0x73, name := "CC.BLOCK", usesN := false, usesM := false, instr := fun _ _ => .ccBlock },
    { op := 0x74, name := "CC.FEEDFWD", usesN := false, usesM := false, instr := fun _ _ => .ccFeedfwd } ]

/-- R101: the OP field, bits 7:0. -/
def fieldOp (w : Word) : Byte := w.extractLsb' 0 8

/-- R101: the N field, bits 15:8. -/
def fieldN (w : Word) : Byte := w.extractLsb' 8 8

/-- R101: the M field, bits 23:16. -/
def fieldM (w : Word) : Byte := w.extractLsb' 16 8

/-- R101: the RSV field, bits 31:24. -/
def fieldRsv (w : Word) : Byte := w.extractLsb' 24 8

/-- The row of R103 with this OP, if OP is defined. -/
def findRow (op : Byte) : Option OpRow := opTable.find? (fun r => r.op == op)

/-- R108: every 32-bit word is one command of R103 with its N and M, or illegal. -/
def decode (w : Word) : Except DecodeError Instr :=
  if fieldRsv w ≠ 0 then .error .rsvNonzero
  else
    match findRow (fieldOp w) with
    | none => .error .reservedOp
    | some r =>
      if fieldN w ≠ 0 ∧ r.usesN = false then .error .unusedN
      else if fieldM w ≠ 0 ∧ r.usesM = false then .error .unusedM
      else .ok (r.instr (fieldN w) (fieldM w))

/-- The decoder read from a table row's bits: bit 0 of `w` is bit 0 of the command word; bits from `nbits` up are 0. -/
def decodeTableWord (nbits w : Nat) : Option Instr :=
  (decode (BitVec.ofNat 32 (w % 2 ^ nbits))).toOption

/-- R103: the word of a command is zext_32(M) << 16 | zext_32(N) << 8 | OP, with RSV = 0. -/
def commandWord (op n m : Byte) : Word :=
  (m.setWidth 32 <<< 16) ||| (n.setWidth 32 <<< 8) ||| op.setWidth 32

/-- R103: the word of each command. -/
def encode : Instr → Word
  | .nop => commandWord 0x00 0 0
  | .clear => commandWord 0x01 0 0
  | .aesKeyexp => commandWord 0x10 0 0
  | .aesEncblk => commandWord 0x11 0 0
  | .aesDecblk => commandWord 0x12 0 0
  | .aesAddrk n => commandWord 0x13 n 0
  | .aesSubbytes => commandWord 0x14 0 0
  | .aesShiftrows => commandWord 0x15 0 0
  | .aesMixcols => commandWord 0x16 0 0
  | .aesInvsubbytes => commandWord 0x17 0 0
  | .aesInvshiftrows => commandWord 0x18 0 0
  | .aesInvmixcols => commandWord 0x19 0 0
  | .aesAdddrk n => commandWord 0x1A n 0
  | .aesEncrnd n => commandWord 0x1B n 0
  | .aesEnclast => commandWord 0x1C 0 0
  | .aesDecrnd n => commandWord 0x1D n 0
  | .aesDeclast => commandWord 0x1E 0 0
  | .gfMul n m => commandWord 0x20 n m
  | .gfXtime n => commandWord 0x21 n 0
  | .aesSbox n => commandWord 0x22 n 0
  | .aesInvsbox n => commandWord 0x23 n 0
  | .desKeysched => commandWord 0x30 0 0
  | .desEncblk => commandWord 0x31 0 0
  | .desDecblk => commandWord 0x32 0 0
  | .desIp => commandWord 0x33 0 0
  | .desRound n => commandWord 0x34 n 0
  | .desFp => commandWord 0x35 0 0
  | .desFeistel n => commandWord 0x36 n 0
  | .rc4Ksa => commandWord 0x50 0 0
  | .rc4Prga n => commandWord 0x51 n 0
  | .ccInit => commandWord 0x70 0 0
  | .ccQr n => commandWord 0x71 n 0
  | .ccDround => commandWord 0x72 0 0
  | .ccBlock => commandWord 0x73 0 0
  | .ccFeedfwd => commandWord 0x74 0 0

/-- R109: the command a source line stands for; none where the assembler refuses the line. An operand that only the command's own
rule rejects is accepted here. -/
def assemble (l : SourceLine) : Option Instr :=
  match opTable.find? (fun r => r.name == l.mnemonic) with
  | none => none
  | some r =>
    match l.operands with
    | [] => if r.usesN then none else some (r.instr 0 0)
    | [n] => if r.usesN && !r.usesM && n ≤ 255 then some (r.instr (BitVec.ofNat 8 n) 0) else none
    | [n, m] => if r.usesM && n ≤ 255 && m ≤ 255 then some (r.instr (BitVec.ofNat 8 n) (BitVec.ofNat 8 m)) else none
    | _ => none

end Sys2Proof
end

