-- ==== Sys2Proof/Config.lean ====
section
/-! DEFINITION. What an implementation fixes (00_scope.md R7 to R10) and the one free value (20_memory.md R73). -/

namespace Sys2Proof

/-- CHACHA_QR_ORDER (R7): which four quarter-round groups a double round applies first. -/
inductive QrOrder where
  | standard
  | listed
deriving DecidableEq, Repr

/-- CHACHA_FEEDFORWARD (R8): whether CC.BLOCK adds XI into X after the rounds. -/
inductive FeedForward where
  | on
  | off
deriving DecidableEq, Repr

/-- CHACHA_WORD_ORDER (R9): how CC.INIT turns key and nonce bytes into words. -/
inductive WordOrder where
  | le
  | be
deriving DecidableEq, Repr

/-- The engine parameters of R7, R8 and R9. A model takes them as an argument: they stand in the state, and no step changes them
(log entry 2). -/
structure Params where
  qrOrder     : QrOrder
  feedForward : FeedForward
  wordOrder   : WordOrder
deriving DecidableEq, Repr

/-- The defaults the spec names: STANDARD (R7), ON (R8), LE (R9). -/
def Params.default : Params := { qrOrder := .standard, feedForward := .on, wordOrder := .le }

/-- Where the platform places one instance (R10): ENGINE_BASE, the bus address of the window's offset 0, and ENGINE_IRQ, the
platform interrupt line its IRQ output drives. ENGINE_COUNT is the length of the platform's list of instances. -/
structure Placement where
  base : Nat
  irq  : Nat
deriving DecidableEq, Repr

/-- FREE VALUE (R73, 93 U1; log entry 5): the n-th draw a host read returns while a command is pending. It has no body, so nothing
can be proved of a value of it. DESIGN CHOICE: every instance and every offset draws from this one sequence (log entry 5). -/
opaque Config.freeRead : Nat → Word

end Sys2Proof
end

