-- ==== Sys2Proof/Machine/State.lean ====
section
/-! DEFINITION. The state of one engine instance (10_state.md R20), the events the outside world sends it (00_scope.md R5), and the
outcomes a step can stop with. -/

namespace Sys2Proof.Machine

/-- Who drives a bus access. The engine serves one host per instance; an access by another gives the run no meaning (R80, 93 U4). -/
inductive Master where
  | host
  | other
deriving DecidableEq, Repr

/-- A read, or a write of a 32-bit value (R71). -/
inductive AccessOp where
  | read
  | write (v : Word)
deriving DecidableEq, Repr

/-- One bus access as it reaches the engine: who drives it, its byte offset in the window, its size in bytes, its byte enables and what
it does (R71, R72). -/
structure Access where
  master : Master
  off    : Nat
  bytes  : Nat
  lanes  : BitVec 4
  op     : AccessOp
deriving DecidableEq, Repr

/-- One step of an agent of R5, as the schedule of a run lists it. -/
inductive Event where
  /-- HOST: one bus access. -/
  | access (a : Access)
  /-- ENGINE: the engine's turn; it does something exactly when a command is pending (R121). -/
  | engine
  /-- RESET: the reset input is asserted (R330). -/
  | assertReset
  /-- RESET: the reset input is released (R330). -/
  | releaseReset
deriving DecidableEq, Repr

/-- PEND, the pending-command slot (R23). STATUS.BUSY is `valid` and is stored nowhere else. -/
structure Pend where
  valid : Bool
  word  : Word
deriving DecidableEq, Repr

/-- STATUS.AES_NR (R24, R30): "0, 10, 12 or 14". -/
inductive AesRounds where
  | zero
  | ten
  | twelve
  | fourteen
deriving DecidableEq, Repr

/-- The stored fields of STATUS (R24). BUSY is `Pend.valid`; bits 31:16 have no storage. -/
structure Status where
  done    : Bool
  err     : Bool
  ovr     : Bool
  errcode : BitVec 4
  aesRkv  : Bool
  desSkv  : Bool
  rc4Rdy  : Bool
  ccInit  : Bool
  aesNr   : AesRounds
deriving DecidableEq, Repr

/-- The architectural state of one instance: R20's list, in its order, then the model's own fields. -/
structure State where
  /-- CMD (R22). -/
  cmd    : Word
  /-- PEND (R23). -/
  pend   : Pend
  /-- STATUS (R24 to R30). -/
  status : Status
  /-- IRQEN bits 2:0: DONE_IE is bit 0, ERR_IE bit 1, OVR_IE bit 2 (R31). -/
  irqen  : BitVec 3
  /-- LEN.KEYLEN (R32). -/
  keylen : Byte
  /-- LEN.IVLEN (R32). -/
  ivlen  : Byte
  /-- RESULT (R33). -/
  result : Word
  /-- CTR (R34). -/
  ctr    : Word
  /-- DESL (R35). -/
  desl   : Word
  /-- DESR (R35). -/
  desr   : Word
  /-- KEY0 to KEY7 (R36). -/
  key    : Vector Word 8
  /-- BLK0 to BLK3 (R37). -/
  blk    : Vector Word 4
  /-- NONCE0 to NONCE2 (R38). -/
  nonce  : Vector Word 3
  /-- RC4_I (R40). -/
  rc4I   : Byte
  /-- RC4_J (R40). -/
  rc4J   : Byte
  /-- X[0..15] (R41). -/
  x      : Vector Word 16
  /-- XI[0..15] (R42). -/
  xi     : Vector Word 16
  /-- W[0..59] (R43). -/
  w      : Vector Word 60
  /-- DW[0..59] (R44). -/
  dw     : Vector Word 60
  /-- SK[1..16]; entry n-1 is SK[n] (R45). -/
  sk     : Vector Subkey 16
  /-- RS[0..255] (R46). -/
  rs     : Vector Byte 256
  /-- The model's own: the parameters of R7 to R9, which no step changes (log entry 2). -/
  params : Params
  /-- The model's own: the level of the reset input (R330; log entry 3). -/
  resetLine : Bool
  /-- The model's own: the events still to come, the next one first (R5, R77, 93 U12, U14; log entry 1). -/
  agenda : List Event
  /-- The model's own: the data the last host read returned (R302; log entry 4). -/
  rdata  : Word
  /-- The model's own: how many free draws reads have taken (R73; log entry 5). -/
  draws  : Nat
deriving DecidableEq, Repr

/-- Faults: none. "No behaviour is treated as `fault`" (93 part 1; R290): an error of a command is a completion with ERR = 1. -/
inductive Fault
deriving DecidableEq, Repr

/-- Refusals. Each but the first is raised by `State.hostAccess` for a bus access the spec gives no meaning; all are SAFE: the model
stops where hardware might go on. -/
inductive Refusal where
  /-- Raised only by an arm of `exec` that has no meaning yet (there is none). SAFE. -/
  | notModelled (mnemonic : String)
  /-- An access by a second host (R80, 93 U4), raised by `State.hostAccess`. SAFE. -/
  | secondHost
  /-- An access narrower or wider than 32 bits (R72, 93 U2), raised by `State.hostAccess`. SAFE. -/
  | accessWidth
  /-- An access with partial byte enables (R72, 93 U2), raised by `State.hostAccess`. SAFE. -/
  | partialLanes
  /-- An access whose offset is no multiple of 4 (R72, 93 U2), raised by `State.hostAccess`. SAFE. -/
  | misaligned
  /-- An access at an offset of 0x1000 or above (R71, 93 U3), raised by `State.hostAccess`. SAFE. -/
  | outsideWindow
deriving DecidableEq, Repr

/-- The outcome of a step or of a command of this engine. -/
abbrev Result := Host.Outcome State Fault Refusal

/-- STATUS after reset: every field 0 (R331). -/
def Status.reset : Status :=
  { done := false, err := false, ovr := false, errcode := 0, aesRkv := false, desSkv := false, rc4Rdy := false,
    ccInit := false, aesNr := .zero }

/-- The machine right after reset (R331, R49): every piece of state is 0. The parameters have the spec's defaults (R7 to R9); the reset
input is released, nothing is on its way from the host, nothing has been read (log entries 1 to 5). -/
def State.reset : State :=
  { cmd := 0, pend := { valid := false, word := 0 }, status := Status.reset, irqen := 0, keylen := 0, ivlen := 0,
    result := 0, ctr := 0, desl := 0, desr := 0,
    key := Vector.replicate 8 0, blk := Vector.replicate 4 0, nonce := Vector.replicate 3 0, rc4I := 0, rc4J := 0,
    x := Vector.replicate 16 0, xi := Vector.replicate 16 0, w := Vector.replicate 60 0, dw := Vector.replicate 60 0,
    sk := Vector.replicate 16 0, rs := Vector.replicate 256 0,
    params := Params.default, resetLine := false, agenda := [], rdata := 0, draws := 0 }

end Sys2Proof.Machine
end

