-- ==== Sys2Proof/Machine/Flags.lean ====
section
/-! DEFINITION. Everything computed from and written to STATUS: its word (R24), its W1C fields (R24, R27), AES_NR (R30) and the IRQ output
(60_exceptions.md R298). -/

namespace Sys2Proof.Machine

/-- AES_NR as the round count Nr it stands for (R30). -/
def AesRounds.toNat : AesRounds → Nat
  | .zero => 0
  | .ten => 10
  | .twelve => 12
  | .fourteen => 14

/-- STATUS.BUSY: it always equals PEND.v (R23, R25). -/
def State.busy (s : State) : Bool := s.pend.valid

/-- Nr, which the AES commands read as STATUS.AES_NR (41_aes.md section 5). -/
def State.nr (s : State) : Nat := s.status.aesNr.toNat

/-- A one-bit field of STATUS at bit `k`. -/
def flagBit (b : Bool) (k : Nat) : Word := (BitVec.ofBool b).setWidth 32 <<< k

/-- STATUS as a host read returns it (R24): the reserved bits 31:16 read 0. -/
def State.statusWord (s : State) : Word :=
  flagBit s.busy 0 ||| flagBit s.status.done 1 ||| flagBit s.status.err 2 ||| flagBit s.status.ovr 3 |||
    (s.status.errcode.setWidth 32 <<< 4) |||
    flagBit s.status.aesRkv 8 ||| flagBit s.status.desSkv 9 ||| flagBit s.status.rc4Rdy 10 ||| flagBit s.status.ccInit 11 |||
    (BitVec.ofNat 32 s.nr <<< 12)

/-- A host write of `v` to STATUS (R24): a 1 in DONE, ERR or OVR clears the field, a 1 in ERR clears ERRCODE too (R27), and nothing else
changes. -/
def Status.writeOneToClear (st : Status) (v : Word) : Status :=
  { st with
    done := st.done && !v.getLsbD 1
    err := st.err && !v.getLsbD 2
    errcode := if v.getLsbD 2 then 0 else st.errcode
    ovr := st.ovr && !v.getLsbD 3 }

/-- Issue clears DONE, ERR and ERRCODE (R120, R26, R27); OVR and the ready flags keep their values. -/
def Status.issued (st : Status) : Status := { st with done := false, err := false, errcode := 0 }

/-- Completion with an error code, 0 for success (R293): DONE is set, ERR says whether the code is not 0, ERRCODE is the code. -/
def Status.completed (st : Status) (code : BitVec 4) : Status :=
  { st with done := true, err := code != 0, errcode := code }

/-- A dropped host write sets OVR (R28). -/
def Status.overrun (st : Status) : Status := { st with ovr := true }

/-- CLEAR's part of STATUS (R124): the ready flags, AES_NR and OVR become 0. -/
def Status.cleared (st : Status) : Status :=
  { st with aesRkv := false, desSkv := false, rc4Rdy := false, ccInit := false, aesNr := .zero, ovr := false }

/-- The IRQ output (R298): level-sensitive, active high, with no state of its own. -/
def State.irq (s : State) : Bool :=
  (s.status.done && s.irqen.getLsbD 0) || (s.status.err && s.irqen.getLsbD 1) || (s.status.ovr && s.irqen.getLsbD 2)

end Sys2Proof.Machine
end

