-- ==== Sys2Proof/Machine/Operands.lean ====
section
/-! DEFINITION. The operand forms of the commands: byte packing (00_scope.md R14), the key, block and nonce bytes (R36 to R38), the register
files read by index, and the checks on KEYLEN, IVLEN and N (R291). -/

namespace Sys2Proof.Machine

/-- A register file or table of `n` entries whose entry i is `f i`. -/
def tabulate {α : Type} (n : Nat) (f : Nat → α) : Vector α n := ⟨⟨(List.range n).map f⟩, by simp⟩

/-- R14: byte `k mod 4` of a register, the first byte in bits 31:24. -/
def laneByte (w : Word) (k : Nat) : Byte := w.extractLsb' (24 - 8 * (k % 4)) 8

/-- R14: the register that holds four bytes, the first one in bits 31:24 (b0 : b1 : b2 : b3). -/
def packBytes (b0 b1 b2 b3 : Byte) : Word :=
  (b0.setWidth 32 <<< 24) ||| (b1.setWidth 32 <<< 16) ||| (b2.setWidth 32 <<< 8) ||| b3.setWidth 32

/-- R36: key[k], for k in 0..31 (every use is in that range). -/
def keyByte (key : Vector Word 8) (k : Nat) : Byte := laneByte (key.getD (k / 4) 0) k

/-- R38: nonce[k], for k in 0..11 (every use is in that range). -/
def nonceByte (nonce : Vector Word 3) (k : Nat) : Byte := laneByte (nonce.getD (k / 4) 0) k

/-- A word of the schedule W or DW. Every use has an index of at most 59: Nr is at most 14 (R30). -/
def schedWord (v : Vector Word 60) (i : Nat) : Word := v.getD i 0

/-- R45: SK[n], for n in 1..16 (every use is in that range). -/
def subkey (sk : Vector Subkey 16) (n : Nat) : Subkey := sk.getD (n - 1) 0

/-- R37: the 64-bit DES block BLK0:BLK1. -/
def desBlock (blk : Vector Word 4) : BitVec 64 := blk[0] ++ blk[1]

/-- R37, R200: BLK0:BLK1 <- v; BLK2 and BLK3 keep their values. -/
def withDesBlock (blk : Vector Word 4) (v : BitVec 64) : Vector Word 4 :=
  #v[v.extractLsb' 32 32, v.extractLsb' 0 32, blk[2], blk[3]]

/-- What KEYLEN makes of an AES key (R146): Nk = KEYLEN / 4 and Nr = Nk + 6. -/
structure AesSize where
  nk : Nat
  nr : AesRounds
deriving DecidableEq, Repr

/-- R146, R151: the AES sizes by KEYLEN; none unless it is 16, 24 or 32. -/
def aesSize (keylen : Byte) : Option AesSize :=
  if keylen = 16 then some { nk := 4, nr := .ten }
  else if keylen = 24 then some { nk := 6, nr := .twelve }
  else if keylen = 32 then some { nk := 8, nr := .fourteen }
  else none

/-- R221: DES takes a key of 8 bytes. -/
def desKeyLenOk (keylen : Byte) : Bool := keylen == 8

/-- R241, R244: RC4 takes a key of 16 or 32 bytes. -/
def rc4KeyLenOk (keylen : Byte) : Bool := keylen == 16 || keylen == 32

/-- R271: ChaCha20 takes a key of 32 bytes. -/
def ccKeyLenOk (keylen : Byte) : Bool := keylen == 32

/-- R271: ChaCha20 takes a nonce of 12 bytes. -/
def ccIvLenOk (ivlen : Byte) : Bool := ivlen == 12

/-- R154, R161: a round key number n in 0..Nr. -/
def roundKeyOk (n : Byte) (nr : Nat) : Bool := n.toNat ≤ nr

/-- R162, R164: an inner round number n in 1..Nr-1 (no number is one when Nr = 0). -/
def innerRoundOk (n : Byte) (nr : Nat) : Bool := 1 ≤ n.toNat && n.toNat + 1 ≤ nr

/-- R225, R227: a subkey number n in 1..16. -/
def subkeyOk (n : Byte) : Bool := 1 ≤ n.toNat && n.toNat ≤ 16

/-- R245: a byte count n in 1..4. -/
def prgaCountOk (n : Byte) : Bool := 1 ≤ n.toNat && n.toNat ≤ 4

/-- R272: a group number g in 0..7. -/
def groupOk (g : Byte) : Bool := g.toNat ≤ 7

end Sys2Proof.Machine
end

