-- ==== Sys2Proof/Machine/Ops.lean ====
section
/-! DEFINITION. The named operations over the state: completion and raising an error (60_exceptions.md R293, R294), which take the place of
exception entry on this hardware (R290), the checks of a command (R122), the register map (10_state.md R47, R48), issue (40_control.md R120), host accesses
(20_memory.md R71 to R74, 10_state.md R28), zeroising (R124) and the reset input (70_reset_and_hazards.md R330). -/

namespace Sys2Proof.Machine

/-- The errors of R291. -/
inductive CmdError where
  /-- KEYLEN not in the algorithm's accepted set. -/
  | invalidKeyLength
  /-- IVLEN is not 12. -/
  | invalidIvLength
  /-- The ready flag the command needs is 0. -/
  | notReady
  /-- N outside the command's range. -/
  | badOperand
  /-- A word that decodes to no command. -/
  | illegalCommand
deriving DecidableEq, Repr

/-- R291: the code of an error; codes 6 to 15 are never produced. -/
def CmdError.code : CmdError → BitVec 4
  | .invalidKeyLength => 1
  | .invalidIvLength => 2
  | .notReady => 3
  | .badOperand => 4
  | .illegalCommand => 5

/-- R293: completion with `code`, 0 for success. BUSY is PEND.v and becomes 0. -/
def State.complete (s : State) (code : BitVec 4) : State :=
  { s with pend := { s.pend with valid := false }, status := s.status.completed code }

/-- R294: a raise ends the command with the error's code; nothing but STATUS changes. -/
def State.raise (s : State) (e : CmdError) : State := s.complete e.code

/-- The end of a command that succeeded (R122: return 0; R293). -/
def State.finish (s : State) : Result := .next (s.complete 0)

/-- One check of a command (R122): where it fails, the command ends with its error and the rest is not performed. -/
def State.require (s : State) (ok : Bool) (e : CmdError) (k : Result) : Result :=
  if ok then k else .next (s.raise e)

/-- R121: the engine takes the pending command out of its slot. DEDUCED: the slot is then empty, its word 0 as after reset (R124, R333;
log entry 8). -/
def State.takePending (s : State) : State := { s with pend := { valid := false, word := 0 } }

/-- R39: the ID register's constant. -/
def idValue : Word := 0x434F5245

/-- The registers of the window (R47). -/
inductive Reg where
  | cmd
  | status
  | irqen
  | len
  | result
  | ctr
  | desl
  | desr
  | key (i : Nat)
  | blk (i : Nat)
  | nonce (i : Nat)
  | rc4ij
  | id
  | x (i : Nat)
  | xi (i : Nat)
  | w (i : Nat)
  | sklo (n : Nat)
  | skhi (n : Nat)
  | rs (i : Nat)
  | dw (i : Nat)
  | reserved
deriving DecidableEq, Repr

/-- R47: the register at a byte offset that is a multiple of 4. -/
def regAt (off : Nat) : Reg :=
  if off = 0x000 then .cmd
  else if off = 0x004 then .status
  else if off = 0x008 then .irqen
  else if off = 0x00C then .len
  else if off = 0x010 then .result
  else if off = 0x014 then .ctr
  else if off = 0x018 then .desl
  else if off = 0x01C then .desr
  else if 0x020 ≤ off ∧ off ≤ 0x03C then .key ((off - 0x020) / 4)
  else if 0x040 ≤ off ∧ off ≤ 0x04C then .blk ((off - 0x040) / 4)
  else if 0x050 ≤ off ∧ off ≤ 0x058 then .nonce ((off - 0x050) / 4)
  else if off = 0x05C then .rc4ij
  else if off = 0x060 then .id
  else if 0x100 ≤ off ∧ off ≤ 0x13C then .x ((off - 0x100) / 4)
  else if 0x140 ≤ off ∧ off ≤ 0x17C then .xi ((off - 0x140) / 4)
  else if 0x200 ≤ off ∧ off ≤ 0x2EC then .w ((off - 0x200) / 4)
  else if 0x300 ≤ off ∧ off ≤ 0x37C then
    if (off - 0x300) % 8 = 0 then .sklo ((off - 0x300) / 8 + 1) else .skhi ((off - 0x300) / 8 + 1)
  else if 0x400 ≤ off ∧ off ≤ 0x7FC then .rs ((off - 0x400) / 4)
  else if 0x800 ≤ off ∧ off ≤ 0x8EC then .dw ((off - 0x800) / 4)
  else .reserved

/-- What a register reads as (R22, R24, R31 to R46); a reserved offset and every reserved field read 0 (R48). -/
def State.readReg (s : State) : Reg → Word
  | .cmd => s.cmd
  | .status => s.statusWord
  | .irqen => s.irqen.setWidth 32
  | .len => (s.ivlen.setWidth 32 <<< 8) ||| s.keylen.setWidth 32
  | .result => s.result
  | .ctr => s.ctr
  | .desl => s.desl
  | .desr => s.desr
  | .key i => s.key.getD i 0
  | .blk i => s.blk.getD i 0
  | .nonce i => s.nonce.getD i 0
  | .rc4ij => (s.rc4J.setWidth 32 <<< 8) ||| s.rc4I.setWidth 32
  | .id => idValue
  | .x i => s.x.getD i 0
  | .xi i => s.xi.getD i 0
  | .w i => s.w.getD i 0
  | .sklo n => (subkey s.sk n).setWidth 32
  | .skhi n => ((subkey s.sk n).extractLsb' 32 16).setWidth 32
  | .rs i => (s.rs.getD i 0).setWidth 32
  | .dw i => s.dw.getD i 0
  | .reserved => 0

/-- R120: issue. CMD and PEND take the word; DONE, ERR and ERRCODE become 0; the word is not decoded. -/
def State.issue (s : State) (v : Word) : State :=
  { s with cmd := v, pend := { valid := true, word := v }, status := s.status.issued }

/-- R74: what a host write does that is not dropped. Read-only and reserved registers ignore it, and so do reserved fields (R48). -/
def State.writeReg (s : State) (r : Reg) (v : Word) : State :=
  match r with
  | .cmd => s.issue v
  | .status => { s with status := s.status.writeOneToClear v }
  | .irqen => { s with irqen := v.extractLsb' 0 3 }
  | .len => { s with keylen := v.extractLsb' 0 8, ivlen := v.extractLsb' 8 8 }
  | .ctr => { s with ctr := v }
  | .key i => { s with key := s.key.setIfInBounds i v }
  | .blk i => { s with blk := s.blk.setIfInBounds i v }
  | .nonce i => { s with nonce := s.nonce.setIfInBounds i v }
  | .x i => { s with x := s.x.setIfInBounds i v }
  | .result => s
  | .desl => s
  | .desr => s
  | .rc4ij => s
  | .id => s
  | .xi _ => s
  | .w _ => s
  | .sklo _ => s
  | .skhi _ => s
  | .rs _ => s
  | .dw _ => s
  | .reserved => s

/-- R73: the registers whose reads return their values while a command is pending. -/
def Reg.readableWhileBusy : Reg → Bool
  | .cmd => true
  | .status => true
  | .irqen => true
  | .id => true
  | _ => false

/-- R28: the registers a host may write while a command is pending. -/
def Reg.writableWhileBusy : Reg → Bool
  | .status => true
  | .irqen => true
  | _ => false

/-- R73: a host read; its data goes to `rdata`. While reset is asserted it returns 0 (R330). While a command is pending most offsets return a
free draw (93 U1). DESIGN CHOICE: the draw is a function of this instance's own draw count alone, so two instances, runs or offsets with
equal counts read equal values, which the spec does not say (log entry 5). -/
def State.hostRead (s : State) (off : Nat) : State :=
  if s.resetLine then { s with rdata := 0 }
  else if s.busy && !(regAt off).readableWhileBusy then
    { s with rdata := Config.freeRead s.draws, draws := s.draws + 1 }
  else { s with rdata := s.readReg (regAt off) }

/-- R74, R28: a host write. While reset is asserted it is ignored (R330). While a command is pending it is dropped and sets OVR, except
at STATUS and IRQEN. -/
def State.hostWrite (s : State) (off : Nat) (v : Word) : State :=
  if s.resetLine then s
  else if s.busy && !(regAt off).writableWhileBusy then { s with status := s.status.overrun }
  else s.writeReg (regAt off) v

/-- R71, R72: a host access. One that is not a 32-bit, aligned, full-lane access inside the window has no meaning and is refused; so is
one by a second host (R80). DEDUCED: refused also while reset is asserted (log entry 9). -/
def State.hostAccess (s : State) (a : Access) : Result :=
  if a.master = .other then .refused .secondHost
  else if a.bytes ≠ 4 then .refused .accessWidth
  else if a.lanes ≠ 0xF then .refused .partialLanes
  else if a.off % 4 ≠ 0 then .refused .misaligned
  else if 0x1000 ≤ a.off then .refused .outsideWindow
  else
    match a.op with
    | .read => .next (s.hostRead a.off)
    | .write v => .next (s.hostWrite a.off v)

/-- R124: CLEAR's writes. CMD, IRQEN and DONE, ERR, ERRCODE keep their values here; PEND is as empty as the engine step has left it.
DEDUCED: CLEAR writes registers that their own rules say no command, or only another command, writes (log entry 11). -/
def State.zeroise (s : State) : State :=
  { s with
    key := Vector.replicate 8 0, blk := Vector.replicate 4 0, nonce := Vector.replicate 3 0,
    keylen := 0, ivlen := 0, ctr := 0, result := 0, desl := 0, desr := 0, rc4I := 0, rc4J := 0,
    x := Vector.replicate 16 0, xi := Vector.replicate 16 0, w := Vector.replicate 60 0, dw := Vector.replicate 60 0,
    sk := Vector.replicate 16 0, rs := Vector.replicate 256 0, pend := { valid := false, word := 0 },
    status := s.status.cleared }

/-- R330: the reset input is asserted. Every piece of state of R20 takes its reset value (R331) and a pending command is discarded; the
parameters, what is still to come from outside and what the host has read are not the engine's to reset. -/
def State.assertReset (s : State) : State :=
  { State.reset with params := s.params, resetLine := true, agenda := s.agenda, rdata := s.rdata, draws := s.draws }

/-- R330: the reset input is released; the engine then waits for a command. -/
def State.releaseReset (s : State) : State := { s with resetLine := false }

end Sys2Proof.Machine
end

