-- ==== Sys2Proof/Machine/Aes.lean ====
section
/-! DEFINITION. The AES engine: the state matrix (41_aes.md R130), the transform stages (R137 to R143), key expansion (R144 to R148), the two
ciphers (R149, R150) and the AES commands (R151 to R165). -/

namespace Sys2Proof.Machine

/-- The AES state: BLK0 to BLK3, register c being column c (R130). -/
abbrev Block := Vector Word 4

/-- R130: s[r][c], row r of column c; row 0 is the most significant byte. -/
def cell (s : Block) (r c : Fin 4) : Byte := laneByte s[c] r.val

/-- R130: the state whose cell in row r and column c is `f r c`. -/
def ofCells (f : Fin 4 → Fin 4 → Byte) : Block :=
  #v[packBytes (f 0 0) (f 1 0) (f 2 0) (f 3 0), packBytes (f 0 1) (f 1 1) (f 2 1) (f 3 1),
     packBytes (f 0 2) (f 1 2) (f 2 2) (f 3 2), packBytes (f 0 3) (f 1 3) (f 2 3) (f 3 3)]

/-- One map on each column. -/
def mapColumns (f : Word → Word) (s : Block) : Block := #v[f s[0], f s[1], f s[2], f s[3]]

/-- R137. -/
def subBytes (s : Block) : Block := ofCells fun r c => sbox (cell s r c)

/-- R138. -/
def invSubBytes (s : Block) : Block := ofCells fun r c => invSbox (cell s r c)

/-- R139: s'[r][c] = s[r][(c + r) mod 4]; the sum of two numbers below 4 is taken mod 4 by their type. -/
def shiftRows (s : Block) : Block := ofCells fun r c => cell s r (c + r)

/-- R140: s'[r][c] = s[r][(c - r) mod 4]. -/
def invShiftRows (s : Block) : Block := ofCells fun r c => cell s r (c - r)

/-- R141, for one column (a0, a1, a2, a3) with a0 in bits 31:24. -/
def mixColumn (w : Word) : Word :=
  let a0 := laneByte w 0
  let a1 := laneByte w 1
  let a2 := laneByte w 2
  let a3 := laneByte w 3
  packBytes
    (mulTable 2 a0 ^^^ mulTable 3 a1 ^^^ a2 ^^^ a3)
    (a0 ^^^ mulTable 2 a1 ^^^ mulTable 3 a2 ^^^ a3)
    (a0 ^^^ a1 ^^^ mulTable 2 a2 ^^^ mulTable 3 a3)
    (mulTable 3 a0 ^^^ a1 ^^^ a2 ^^^ mulTable 2 a3)

/-- R142, for one column; the spec's InvMixColumn(w). -/
def invMixColumn (w : Word) : Word :=
  let a0 := laneByte w 0
  let a1 := laneByte w 1
  let a2 := laneByte w 2
  let a3 := laneByte w 3
  packBytes
    (mulTable 14 a0 ^^^ mulTable 11 a1 ^^^ mulTable 13 a2 ^^^ mulTable 9 a3)
    (mulTable 9 a0 ^^^ mulTable 14 a1 ^^^ mulTable 11 a2 ^^^ mulTable 13 a3)
    (mulTable 13 a0 ^^^ mulTable 9 a1 ^^^ mulTable 14 a2 ^^^ mulTable 11 a3)
    (mulTable 11 a0 ^^^ mulTable 13 a1 ^^^ mulTable 9 a2 ^^^ mulTable 14 a3)

/-- R141. -/
def mixColumns (s : Block) : Block := mapColumns mixColumn s

/-- R142. -/
def invMixColumns (s : Block) : Block := mapColumns invMixColumn s

/-- R143: column c becomes BLK(c) ^ K[4n + c]. -/
def addRoundKey (s : Block) (k : Vector Word 60) (n : Nat) : Block :=
  #v[s[0] ^^^ schedWord k (4 * n), s[1] ^^^ schedWord k (4 * n + 1),
     s[2] ^^^ schedWord k (4 * n + 2), s[3] ^^^ schedWord k (4 * n + 3)]

/-- R144: RotWord(b0:b1:b2:b3) = b1:b2:b3:b0. -/
def rotWord (w : Word) : Word := packBytes (laneByte w 1) (laneByte w 2) (laneByte w 3) (laneByte w 0)

/-- R144: SubWord. -/
def subWord (w : Word) : Word :=
  packBytes (sbox (laneByte w 0)) (sbox (laneByte w 1)) (sbox (laneByte w 2)) (sbox (laneByte w 3))

/-- R145: RC[j + 1], so RC[1] is 1 and each next one is its xtime. -/
def roundConstantFrom : Nat → Byte
  | 0 => 1
  | j + 1 => xtime (roundConstantFrom j)

/-- R145: Rcon[j], j at least 1: RC[j] in the most significant byte. -/
def rcon (j : Nat) : Word := packBytes (roundConstantFrom (j - 1)) 0 0 0

/-- R147: W[i] from the words before it, i being their number. -/
def nextScheduleWord (nk : Nat) (ws : List Word) : Word :=
  let i := ws.length
  let t := ws.getD (i - 1) 0
  let u :=
    if i % nk = 0 then subWord (rotWord t) ^^^ rcon (i / nk)
    else if nk = 8 ∧ i % nk = 4 then subWord t
    else t
  ws.getD (i - nk) 0 ^^^ u

/-- R147: `k` more words of the schedule. -/
def extendSchedule (nk : Nat) : Nat → List Word → List Word
  | 0, ws => ws
  | k + 1, ws => extendSchedule nk k (ws ++ [nextScheduleWord nk ws])

/-- R147: the first Nk words, from the key bytes. -/
def keyWords (nk : Nat) (key : Vector Word 8) : List Word :=
  (List.range nk).map fun i =>
    packBytes (keyByte key (4 * i)) (keyByte key (4 * i + 1)) (keyByte key (4 * i + 2)) (keyByte key (4 * i + 3))

/-- R147: ExpandKey. 4(Nr + 1) words, and 0 in every entry above. -/
def expandKey (z : AesSize) (key : Vector Word 8) : Vector Word 60 :=
  let ws := extendSchedule z.nk (4 * (z.nr.toNat + 1) - z.nk) (keyWords z.nk key)
  tabulate 60 fun i => ws.getD i 0

/-- R148: the decryption schedule. -/
def decSchedule (nr : Nat) (w : Vector Word 60) : Vector Word 60 :=
  tabulate 60 fun i =>
    let n := i / 4
    if n = 0 ∨ n = nr then schedWord w i
    else if n < nr then invMixColumn (schedWord w i)
    else 0

/-- R149: one inner forward round n. -/
def encRound (w : Vector Word 60) (s : Block) (n : Nat) : Block :=
  addRoundKey (mixColumns (shiftRows (subBytes s))) w n

/-- R149: the final forward round Nr, without MixColumns. -/
def encLast (w : Vector Word 60) (nr : Nat) (s : Block) : Block :=
  addRoundKey (shiftRows (subBytes s)) w nr

/-- R150: one inner round n of the equivalent inverse cipher. -/
def decRound (dw : Vector Word 60) (s : Block) (n : Nat) : Block :=
  addRoundKey (invMixColumns (invShiftRows (invSubBytes s))) dw n

/-- R150: the final inverse round, with round key 0. -/
def decLast (dw : Vector Word 60) (s : Block) : Block :=
  addRoundKey (invShiftRows (invSubBytes s)) dw 0

/-- R149, R152: round key 0, rounds 1 to Nr-1, the final round. -/
def encryptBlock (w : Vector Word 60) (nr : Nat) (s : Block) : Block :=
  encLast w nr ((List.range' 1 (nr - 1)).foldl (encRound w) (addRoundKey s w 0))

/-- R150, R153: round key Nr, rounds Nr-1 down to 1, the final round. -/
def decryptBlock (dw : Vector Word 60) (nr : Nat) (s : Block) : Block :=
  decLast dw ((List.range' 1 (nr - 1)).reverse.foldl (decRound dw) (addRoundKey s dw nr))

/-- The write of the state (R130) that ends an AES command. -/
def State.withBlock (s : State) (b : Block) : State := { s with blk := b }

/-- AES.KEYEXP (R151). -/
def execAesKeyexp (s : State) : Result :=
  match aesSize s.keylen with
  | none => .next (s.raise .invalidKeyLength)
  | some z =>
    let w := expandKey z s.key
    State.finish { s with
      w := w
      dw := decSchedule z.nr.toNat w
      status := { s.status with aesNr := z.nr, aesRkv := true } }

/-- AES.ENCBLK (R152). -/
def execAesEncblk (s : State) : Result :=
  s.require s.status.aesRkv .notReady (s.withBlock (encryptBlock s.w s.nr s.blk)).finish

/-- AES.DECBLK (R153). -/
def execAesDecblk (s : State) : Result :=
  s.require s.status.aesRkv .notReady (s.withBlock (decryptBlock s.dw s.nr s.blk)).finish

/-- AES.ADDRK n (R154). -/
def execAesAddrk (n : Byte) (s : State) : Result :=
  s.require s.status.aesRkv .notReady <|
  s.require (roundKeyOk n s.nr) .badOperand (s.withBlock (addRoundKey s.blk s.w n.toNat)).finish

/-- AES.SUBBYTES (R155). -/
def execAesSubbytes (s : State) : Result := (s.withBlock (subBytes s.blk)).finish

/-- AES.SHIFTROWS (R156). -/
def execAesShiftrows (s : State) : Result := (s.withBlock (shiftRows s.blk)).finish

/-- AES.MIXCOLS (R157). -/
def execAesMixcols (s : State) : Result := (s.withBlock (mixColumns s.blk)).finish

/-- AES.INVSUBBYTES (R158). -/
def execAesInvsubbytes (s : State) : Result := (s.withBlock (invSubBytes s.blk)).finish

/-- AES.INVSHIFTROWS (R159). -/
def execAesInvshiftrows (s : State) : Result := (s.withBlock (invShiftRows s.blk)).finish

/-- AES.INVMIXCOLS (R160). -/
def execAesInvmixcols (s : State) : Result := (s.withBlock (invMixColumns s.blk)).finish

/-- AES.ADDDRK n (R161). -/
def execAesAdddrk (n : Byte) (s : State) : Result :=
  s.require s.status.aesRkv .notReady <|
  s.require (roundKeyOk n s.nr) .badOperand (s.withBlock (addRoundKey s.blk s.dw n.toNat)).finish

/-- AES.ENCRND n (R162). -/
def execAesEncrnd (n : Byte) (s : State) : Result :=
  s.require s.status.aesRkv .notReady <|
  s.require (innerRoundOk n s.nr) .badOperand (s.withBlock (encRound s.w s.blk n.toNat)).finish

/-- AES.ENCLAST (R163). -/
def execAesEnclast (s : State) : Result :=
  s.require s.status.aesRkv .notReady (s.withBlock (encLast s.w s.nr s.blk)).finish

/-- AES.DECRND n (R164). -/
def execAesDecrnd (n : Byte) (s : State) : Result :=
  s.require s.status.aesRkv .notReady <|
  s.require (innerRoundOk n s.nr) .badOperand (s.withBlock (decRound s.dw s.blk n.toNat)).finish

/-- AES.DECLAST (R165). -/
def execAesDeclast (s : State) : Result :=
  s.require s.status.aesRkv .notReady (s.withBlock (decLast s.dw s.blk)).finish

end Sys2Proof.Machine
end

