-- ==== Sys2Proof/Machine/Chacha.lean ====
section
/-! DEFINITION. The ChaCha20 engine: layout, constants and words (44_chacha20.md R260 to R265), quarter-round groups, quarter-round, double round,
rounds and feed-forward (R266 to R270), and the ChaCha20 commands (R271 to R275). -/

namespace Sys2Proof.Machine

/-- The ChaCha20 state (R260). -/
abbrev Words16 := Vector Word 16

/-- R265: Word(b0, b1, b2, b3) under CHACHA_WORD_ORDER. -/
def chachaWord (o : WordOrder) (b0 b1 b2 b3 : Byte) : Word :=
  match o with
  | .le => packBytes b3 b2 b1 b0
  | .be => packBytes b0 b1 b2 b3

/-- R262: X[4+i], from the key bytes 4i to 4i+3. -/
def chachaKeyWord (o : WordOrder) (key : Vector Word 8) (i : Nat) : Word :=
  chachaWord o (keyByte key (4 * i)) (keyByte key (4 * i + 1)) (keyByte key (4 * i + 2)) (keyByte key (4 * i + 3))

/-- R264: X[13+i], from the nonce bytes 4i to 4i+3. -/
def chachaNonceWord (o : WordOrder) (nonce : Vector Word 3) (i : Nat) : Word :=
  chachaWord o (nonceByte nonce (4 * i)) (nonceByte nonce (4 * i + 1)) (nonceByte nonce (4 * i + 2))
    (nonceByte nonce (4 * i + 3))

/-- R260 to R264: the initial state: four constants, eight key words, the counter, three nonce words. -/
def chachaInit (o : WordOrder) (key : Vector Word 8) (ctr : Word) (nonce : Vector Word 3) : Words16 :=
  #v[0x61707865, 0x3320646E, 0x79622D32, 0x6B206574,
     chachaKeyWord o key 0, chachaKeyWord o key 1, chachaKeyWord o key 2, chachaKeyWord o key 3,
     chachaKeyWord o key 4, chachaKeyWord o key 5, chachaKeyWord o key 6, chachaKeyWord o key 7,
     ctr, chachaNonceWord o nonce 0, chachaNonceWord o nonce 1, chachaNonceWord o nonce 2]

/-- A quarter-round group (R266). -/
structure QrGroup where
  a : Fin 16
  b : Fin 16
  c : Fin 16
  d : Fin 16
deriving DecidableEq, Repr

/-- R266: the eight groups. -/
def qrGroup : Fin 8 → QrGroup
  | 0 => { a := 0, b := 4, c := 8, d := 12 }
  | 1 => { a := 1, b := 5, c := 9, d := 13 }
  | 2 => { a := 2, b := 6, c := 10, d := 14 }
  | 3 => { a := 3, b := 7, c := 11, d := 15 }
  | 4 => { a := 0, b := 5, c := 10, d := 15 }
  | 5 => { a := 1, b := 6, c := 11, d := 12 }
  | 6 => { a := 2, b := 7, c := 8, d := 13 }
  | 7 => { a := 3, b := 4, c := 9, d := 14 }

/-- R267: one of the four steps of a quarter-round: X[p] <- X[p] + X[q]; X[t] <- rotl_32(X[t] ^ X[p], k). -/
def arxStep (x : Words16) (p q t : Fin 16) (k : Nat) : Words16 :=
  let x1 := x.set p (x[p] + x[q])
  x1.set t ((x1[t] ^^^ x1[p]).rotateLeft k)

/-- R267: the quarter-round on the words of a group. -/
def quarterRound (x : Words16) (g : QrGroup) : Words16 :=
  let x1 := arxStep x g.a g.b g.d 16
  let x2 := arxStep x1 g.c g.d g.b 12
  let x3 := arxStep x2 g.a g.b g.d 8
  arxStep x3 g.c g.d g.b 7

/-- R268: the groups of a double round in the order CHACHA_QR_ORDER gives. -/
def groupOrder : QrOrder → List (Fin 8)
  | .standard => [0, 1, 2, 3, 4, 5, 6, 7]
  | .listed => [4, 5, 6, 7, 0, 1, 2, 3]

/-- R268: a double round. -/
def doubleRound (o : QrOrder) (x : Words16) : Words16 :=
  (groupOrder o).foldl (fun y g => quarterRound y (qrGroup g)) x

/-- R269: `k` double rounds. -/
def doubleRounds (o : QrOrder) : Nat → Words16 → Words16
  | 0, x => x
  | k + 1, x => doubleRounds o k (doubleRound o x)

/-- R270, R275: X[i] <- X[i] + XI[i] mod 2^32. -/
def addWords (x xi : Words16) : Words16 := tabulate 16 fun i => x.getD i 0 + xi.getD i 0

/-- R269, R270: twenty rounds, then the feed-forward if CHACHA_FEEDFORWARD is ON. -/
def chachaBlock (p : Params) (x xi : Words16) : Words16 :=
  match p.feedForward with
  | .on => addWords (doubleRounds p.qrOrder 10 x) xi
  | .off => doubleRounds p.qrOrder 10 x

/-- The write of X that ends a ChaCha20 command. -/
def State.withX (s : State) (x : Words16) : State := { s with x := x }

/-- CC.INIT (R271). -/
def execCcInit (s : State) : Result :=
  s.require (ccKeyLenOk s.keylen) .invalidKeyLength <|
  s.require (ccIvLenOk s.ivlen) .invalidIvLength <|
  State.finish { s with
    x := chachaInit s.params.wordOrder s.key s.ctr s.nonce
    xi := chachaInit s.params.wordOrder s.key s.ctr s.nonce
    status := { s.status with ccInit := true } }

/-- CC.QR g (R272). -/
def execCcQr (g : Byte) (s : State) : Result :=
  s.require (groupOk g) .badOperand (s.withX (quarterRound s.x (qrGroup (Fin.ofNat 8 g.toNat)))).finish

/-- CC.DROUND (R273). -/
def execCcDround (s : State) : Result := (s.withX (doubleRound s.params.qrOrder s.x)).finish

/-- CC.BLOCK (R274). -/
def execCcBlock (s : State) : Result := (s.withX (chachaBlock s.params s.x s.xi)).finish

/-- CC.FEEDFWD (R275). -/
def execCcFeedfwd (s : State) : Result := (s.withX (addWords s.x s.xi)).finish

end Sys2Proof.Machine
end

