-- ==== Sys2Proof/Machine/Control.lean ====
section
/-! DEFINITION. The control family: NOP and CLEAR (40_control.md R123, R124). -/

namespace Sys2Proof.Machine

/-- NOP (R123): nothing beyond completion. -/
def execNop (s : State) : Result := s.finish

/-- CLEAR (R124): zeroise, then complete. -/
def execClear (s : State) : Result := s.zeroise.finish

end Sys2Proof.Machine
end

