-- ==== Sys2Proof/Machine/Des.lean ====
section
/-! DEFINITION. The DES engine: permutations (42_des.md R200, R201), S-box addressing (R217), the Feistel function, key schedule and round (R218
to R220), and the DES commands (R221 to R227). -/

namespace Sys2Proof.Machine

/-- R201: Perm(x, T, w) as an m-bit value: output position j is input position T[j], position p being bit w - p (R200). -/
def permute {w : Nat} (m : Nat) (x : BitVec w) (t : List Nat) : BitVec m :=
  t.foldl (fun r p => (r <<< 1) ||| (BitVec.ofBool (x.getLsbD (w - p))).setWidth m) 0

/-- R217: S-box number `k + 1` applied to the 6-bit group b: the row is b[5] b[0], the column b[4:1]. -/
def desSbox (k : Nat) (b : BitVec 6) : BitVec 4 :=
  let row := (b.extractLsb' 5 1 ++ b.extractLsb' 0 1).toNat
  let col := (b.extractLsb' 1 4).toNat
  BitVec.ofNat 4 (((desSboxes.getD k []).getD row []).getD col 0)

/-- R218: the 48-bit value E(R) ^ K through the eight S-boxes, group i (from the most significant) through S(i+1). -/
def substitute (x : Subkey) : Word :=
  (List.range 8).foldl
    (fun o i => (o <<< 4) ||| (desSbox i (x.extractLsb' (42 - 6 * i) 6)).setWidth 32) 0

/-- R218: the Feistel function f(R, K). -/
def feistel (r : Word) (k : Subkey) : Word :=
  permute 32 (substitute (permute 48 r eTable ^^^ k)) pTable

/-- R219: the subkeys formed from the halves C and D by the rotations that are left. -/
def subkeysFrom (c d : BitVec 28) : List Nat → List Subkey
  | [] => []
  | n :: rest =>
    permute 48 (c.rotateLeft n ++ d.rotateLeft n) pc2Table :: subkeysFrom (c.rotateLeft n) (d.rotateLeft n) rest

/-- R219: Subkeys(k64); entry n-1 is SK[n]. -/
def desSubkeys (k64 : BitVec 64) : Vector Subkey 16 :=
  let cd : BitVec 56 := permute 56 k64 pc1Table
  let ks := subkeysFrom (cd.extractLsb' 28 28) (cd.extractLsb' 0 28) shiftTable
  tabulate 16 fun i => ks.getD i 0

/-- The DES halves L and R (R35). -/
structure Halves where
  l : Word
  r : Word
deriving DecidableEq, Repr

/-- R202, R224: the halves of the initial permutation of a block. -/
def desInitial (b : BitVec 64) : Halves :=
  let x : BitVec 64 := permute 64 b ipTable
  { l := x.extractLsb' 32 32, r := x.extractLsb' 0 32 }

/-- R220: one round with subkey n. -/
def desRound (sk : Vector Subkey 16) (h : Halves) (n : Nat) : Halves :=
  { l := h.r, r := h.l ^^^ feistel h.r (subkey sk n) }

/-- R220, R226: swap the halves and apply the final permutation. -/
def desFinal (h : Halves) : BitVec 64 := permute 64 (h.r ++ h.l) fpTable

/-- R220: the rounds of a block, with the subkeys of the numbers in `ns`, in that order. -/
def desRounds (sk : Vector Subkey 16) (ns : List Nat) (b : BitVec 64) : Halves :=
  ns.foldl (desRound sk) (desInitial b)

/-- R222: subkeys 1 to 16, for encryption. -/
def encOrder : List Nat := List.range' 1 16

/-- R223: subkeys 16 down to 1, for decryption. -/
def decOrder : List Nat := (List.range' 1 16).reverse

/-- DESL <- L ; DESR <- R. -/
def State.withHalves (s : State) (h : Halves) : State := { s with desl := h.l, desr := h.r }

/-- DESL and DESR as the halves. -/
def State.halves (s : State) : Halves := { l := s.desl, r := s.desr }

/-- R222, R223: the whole block transform with the subkeys in the order `ns`. -/
def State.desTransform (s : State) (ns : List Nat) : State :=
  let h := desRounds s.sk ns (desBlock s.blk)
  { s.withHalves h with blk := withDesBlock s.blk (desFinal h) }

/-- DES.KEYSCHED (R221). -/
def execDesKeysched (s : State) : Result :=
  s.require (desKeyLenOk s.keylen) .invalidKeyLength <|
  State.finish { s with
    sk := desSubkeys (s.key[0] ++ s.key[1])
    status := { s.status with desSkv := true } }

/-- DES.ENCBLK (R222). -/
def execDesEncblk (s : State) : Result :=
  s.require s.status.desSkv .notReady (s.desTransform encOrder).finish

/-- DES.DECBLK (R223). -/
def execDesDecblk (s : State) : Result :=
  s.require s.status.desSkv .notReady (s.desTransform decOrder).finish

/-- DES.IP (R224). -/
def execDesIp (s : State) : Result := (s.withHalves (desInitial (desBlock s.blk))).finish

/-- DES.ROUND n (R225). -/
def execDesRound (n : Byte) (s : State) : Result :=
  s.require s.status.desSkv .notReady <|
  s.require (subkeyOk n) .badOperand (s.withHalves (desRound s.sk s.halves n.toNat)).finish

/-- DES.FP (R226). -/
def execDesFp (s : State) : Result :=
  State.finish { s with blk := withDesBlock s.blk (desFinal s.halves) }

/-- DES.FEISTEL n (R227). -/
def execDesFeistel (n : Byte) (s : State) : Result :=
  s.require s.status.desSkv .notReady <|
  s.require (subkeyOk n) .badOperand <|
  State.finish { s with result := feistel s.desr (subkey s.sk n.toNat) }

end Sys2Proof.Machine
end

