-- ==== Sys2Proof/Machine/Rc4.lean ====
section
/-! DEFINITION. The RC4 engine: the key-scheduling algorithm and the PRGA (43_rc4.md R240 to R243) and the commands RC4.KSA and RC4.PRGA (R244,
R245). -/

namespace Sys2Proof.Machine

/-- The RC4 state (R240). -/
structure Rc4 where
  i  : Byte
  j  : Byte
  rs : Vector Byte 256
deriving DecidableEq, Repr

/-- RS[k]; an 8-bit index is always inside the 256 entries (R240). -/
def rsEntry (rs : Vector Byte 256) (k : Byte) : Byte := rs[k.toNat]'k.isLt

/-- swap RS[a], RS[b] (R242, R243). -/
def rsSwap (rs : Vector Byte 256) (a b : Byte) : Vector Byte 256 := rs.swap a.toNat b.toNat a.isLt b.isLt

/-- R242: one turn of the KSA's second loop, at index i. The key byte is key[i mod L]. Index arithmetic is 8-bit (R240). -/
def ksaTurn (key : Nat → Byte) (l : Nat) (st : Rc4) (i : Nat) : Rc4 :=
  let j := st.j + rsEntry st.rs (BitVec.ofNat 8 i) + key (i % l)
  { st with j := j, rs := rsSwap st.rs (BitVec.ofNat 8 i) j }

/-- R242: the permutation the KSA builds from a key of l bytes, starting from the identity and j = 0. -/
def ksaPermutation (key : Nat → Byte) (l : Nat) : Vector Byte 256 :=
  ((List.range 256).foldl (ksaTurn key l) { i := 0, j := 0, rs := tabulate 256 (BitVec.ofNat 8) }).rs

/-- R243: the state after one PRGA step. -/
def prgaAdvance (st : Rc4) : Rc4 :=
  let i := st.i + 1
  let j := st.j + rsEntry st.rs i
  { i := i, j := j, rs := rsSwap st.rs i j }

/-- R243: the keystream byte a PRGA step returns, read from the state after its swap. -/
def prgaOutput (st : Rc4) : Byte := rsEntry st.rs (rsEntry st.rs st.i + rsEntry st.rs st.j)

/-- R245: `k` PRGA steps from step number t on, each byte going to bits [31-8t : 24-8t] of the result. -/
def prgaSteps : Nat → Nat → Rc4 → Word → Word × Rc4
  | 0, _, st, r => (r, st)
  | k + 1, t, st, r =>
    prgaSteps k (t + 1) (prgaAdvance st) (r ||| ((prgaOutput (prgaAdvance st)).setWidth 32 <<< (24 - 8 * t)))

/-- The RC4 part of the state (R40, R46). -/
def State.rc4 (s : State) : Rc4 := { i := s.rc4I, j := s.rc4J, rs := s.rs }

/-- The write of the RC4 part of the state. -/
def State.withRc4 (s : State) (st : Rc4) : State := { s with rc4I := st.i, rc4J := st.j, rs := st.rs }

/-- RC4.KSA (R244). -/
def execRc4Ksa (s : State) : Result :=
  s.require (rc4KeyLenOk s.keylen) .invalidKeyLength <|
  State.finish
    { s.withRc4 { i := 0, j := 0, rs := ksaPermutation (keyByte s.key) s.keylen.toNat } with
      status := { s.status with rc4Rdy := true } }

/-- RC4.PRGA n (R245). -/
def execRc4Prga (n : Byte) (s : State) : Result :=
  s.require s.status.rc4Rdy .notReady <|
  s.require (prgaCountOk n) .badOperand <|
  State.finish
    { s.withRc4 (prgaSteps n.toNat 0 s.rc4 0).2 with result := (prgaSteps n.toNat 0 s.rc4 0).1 }

end Sys2Proof.Machine
end

