-- ==== Sys2Proof/Machine/Dispatch.lean ====
section
/-! DEFINITION. One arm per command (30_encoding.md R103): execute(c) for a legal command and its completion (40_control.md R121, R122). -/

namespace Sys2Proof.Machine

def exec (i : Instr) (s : State) : Host.Outcome State Fault Refusal :=
  match i with
  | .nop => Sys2Proof.Machine.execNop s
  | .clear => Sys2Proof.Machine.execClear s
  | .aesKeyexp => Sys2Proof.Machine.execAesKeyexp s
  | .aesEncblk => Sys2Proof.Machine.execAesEncblk s
  | .aesDecblk => Sys2Proof.Machine.execAesDecblk s
  | .aesAddrk n => Sys2Proof.Machine.execAesAddrk n s
  | .aesSubbytes => Sys2Proof.Machine.execAesSubbytes s
  | .aesShiftrows => Sys2Proof.Machine.execAesShiftrows s
  | .aesMixcols => Sys2Proof.Machine.execAesMixcols s
  | .aesInvsubbytes => Sys2Proof.Machine.execAesInvsubbytes s
  | .aesInvshiftrows => Sys2Proof.Machine.execAesInvshiftrows s
  | .aesInvmixcols => Sys2Proof.Machine.execAesInvmixcols s
  | .aesAdddrk n => Sys2Proof.Machine.execAesAdddrk n s
  | .aesEncrnd n => Sys2Proof.Machine.execAesEncrnd n s
  | .aesEnclast => Sys2Proof.Machine.execAesEnclast s
  | .aesDecrnd n => Sys2Proof.Machine.execAesDecrnd n s
  | .aesDeclast => Sys2Proof.Machine.execAesDeclast s
  | .gfMul n m => Sys2Proof.Machine.execGfMul n m s
  | .gfXtime n => Sys2Proof.Machine.execGfXtime n s
  | .aesSbox n => Sys2Proof.Machine.execAesSbox n s
  | .aesInvsbox n => Sys2Proof.Machine.execAesInvsbox n s
  | .desKeysched => Sys2Proof.Machine.execDesKeysched s
  | .desEncblk => Sys2Proof.Machine.execDesEncblk s
  | .desDecblk => Sys2Proof.Machine.execDesDecblk s
  | .desIp => Sys2Proof.Machine.execDesIp s
  | .desRound n => Sys2Proof.Machine.execDesRound n s
  | .desFp => Sys2Proof.Machine.execDesFp s
  | .desFeistel n => Sys2Proof.Machine.execDesFeistel n s
  | .rc4Ksa => Sys2Proof.Machine.execRc4Ksa s
  | .rc4Prga n => Sys2Proof.Machine.execRc4Prga n s
  | .ccInit => Sys2Proof.Machine.execCcInit s
  | .ccQr n => Sys2Proof.Machine.execCcQr n s
  | .ccDround => Sys2Proof.Machine.execCcDround s
  | .ccBlock => Sys2Proof.Machine.execCcBlock s
  | .ccFeedfwd => Sys2Proof.Machine.execCcFeedfwd s

end Sys2Proof.Machine
end

