-- ==== Sys2Proof/Machine/Engine.lean ====
section
/-! DEFINITION. What each agent of 00_scope.md R5 does in one step: the engine step (40_control.md R121, R122), a host access, a reset edge. -/

namespace Sys2Proof.Machine

/-- R121, R122: the engine performs the pending command: it decodes the word and runs the command, or completes with IllegalCommand. -/
def State.engineStep (s : State) : Result :=
  match decode s.pend.word with
  | .ok i => exec i s.takePending
  | .error _ => .next (s.takePending.raise .illegalCommand)

/-- The engine's turn (R121): the step can happen exactly when PEND.v = 1; otherwise the engine is idle and holds its state (R305). -/
def State.engineTurn (s : State) : Result :=
  if s.pend.valid then s.engineStep else .next s

/-- One event (R5), already taken off the agenda. -/
def State.perform (s : State) (e : Event) : Result :=
  match e with
  | .access a => s.hostAccess a
  | .engine => s.engineTurn
  | .assertReset => .next s.assertReset
  | .releaseReset => .next s.releaseReset

/-- The next step of the run: the first event of the agenda (R77), and the engine's turn when the agenda is empty (weak fairness, R341). -/
def State.advance (s : State) : Result :=
  match s.agenda with
  | [] => s.engineTurn
  | e :: rest => State.perform { s with agenda := rest } e

/-- The command word `v` issued (R120) with the engine's turn next: with events still to come, the turn is put before them. -/
def State.placeCommand (s : State) (v : Word) : State :=
  match s.agenda with
  | [] => s.issue v
  | e :: rest => { s.issue v with agenda := .engine :: e :: rest }

end Sys2Proof.Machine
end

