-- ==== Sys2Proof/Machine/HostProgram.lean ====
section
/-! DEFINITION. The notation of host programs (30_encoding.md R110) as events of the agenda: wr, rd, poll, cmd and expect. A host program is host
behaviour; these are the events it sends the engine, with the turn the schedule gives the engine written where it falls (93 U12). -/

namespace Sys2Proof.Machine

/-- R110: `wr OFF, V`. -/
def wrEvent (off : Nat) (v : Word) : Event :=
  .access { master := .host, off := off, bytes := 4, lanes := 0xF, op := .write v }

/-- R110: `rd OFF`. -/
def rdEvent (off : Nat) : Event :=
  .access { master := .host, off := off, bytes := 4, lanes := 0xF, op := .read }

/-- R110: `poll`, when the engine's turn comes after `k` reads of STATUS that returned BUSY = 1: the read after it ends the loop. -/
def pollEvents (k : Nat) : List Event := List.replicate k (rdEvent 0x004) ++ [.engine, rdEvent 0x004]

/-- R110: `cmd` of the command `i`: the write of its word to CMD, then `poll`. -/
def cmdEvents (i : Instr) (k : Nat) : List Event := wrEvent 0x000 (encode i) :: pollEvents k

/-- R110: `expect OFF = V`, right after `rd OFF`. -/
def State.expects (s : State) (v : Word) : Bool := s.rdata == v

end Sys2Proof.Machine
end

