-- ==== Sys2Proof/Machine/Platform.lean ====
section
/-! DEFINITION. A platform of engine instances (00_scope.md R10, 20_memory.md R70, R85, 60_exceptions.md R299, R303): each with its own window, state
and IRQ line. ENGINE_COUNT is the list's length. DESIGN CHOICE (log entry 10). The instances'
reads while BUSY = 1 draw from one sequence, each by its own count. DESIGN CHOICE (log entry 5). -/

namespace Sys2Proof.Machine

/-- One instance: its ENGINE_BASE and ENGINE_IRQ, and its state. -/
structure Inst where
  place : Placement
  state : State
deriving DecidableEq, Repr

/-- R70: the window offset of a bus address, if the window of 4096 bytes at `base` holds it. -/
def windowOffset (p : Placement) (addr : Nat) : Option Nat :=
  if p.base ≤ addr ∧ addr < p.base + 0x1000 then some (addr - p.base) else none

/-- R10, R303: the platform after one step of instance `k`; there is nothing to do where there is no such instance. -/
def platformStep (p : List Inst) (k : Nat) : Host.Outcome (List Inst) Fault Refusal :=
  match p[k]? with
  | none => .next p
  | some i =>
    match step i.state with
    | .next t => .next (p.set k { i with state := t })
    | .fault f => .fault f
    | .refused r => .refused r

/-- R70, R77: a host access at a bus address joins the end of the agenda of each instance whose window holds the address. -/
def deliver (p : List Inst) (addr : Nat) (op : AccessOp) : List Inst :=
  p.map fun i =>
    match windowOffset i.place addr with
    | none => i
    | some off =>
      { i with state := { i.state with
          agenda := i.state.agenda ++ [.access { master := .host, off := off, bytes := 4, lanes := 0xF, op := op }] } }

/-- R299: the platform interrupt line `n` is driven by the IRQ outputs wired to it. -/
def platformLine (p : List Inst) (n : Nat) : Bool := p.any fun i => i.place.irq == n && i.state.irq

end Sys2Proof.Machine
end

