-- ==== Sys2Proof/Safety.lean ====
section
/-! DEFINITION. The terms in which the claims about the machine are stated: completion written out from R293, a sequence of commands, which
command may write which state, and the invariant that every step keeps. -/

namespace Sys2Proof

/-- The commands that may write BLK (R37, R124, the "State written" lines of 41_aes.md and 42_des.md). -/
def Instr.writesBlk : Instr → Bool
  | .clear | .aesEncblk | .aesDecblk | .aesAddrk _ | .aesSubbytes | .aesShiftrows | .aesMixcols | .aesInvsubbytes
  | .aesInvshiftrows | .aesInvmixcols | .aesAdddrk _ | .aesEncrnd _ | .aesEnclast | .aesDecrnd _ | .aesDeclast
  | .desEncblk | .desDecblk | .desFp => true
  | _ => false

/-- The commands of the DES family (42_des.md). -/
def Instr.isDes : Instr → Bool
  | .desKeysched | .desEncblk | .desDecblk | .desIp | .desRound _ | .desFp | .desFeistel _ => true
  | _ => false

/-- R35: the commands that may write DESL and DESR. -/
def Instr.writesHalves : Instr → Bool
  | .clear | .desIp | .desRound _ | .desEncblk | .desDecblk => true
  | _ => false

/-- R33: the commands that may write RESULT. -/
def Instr.writesResult : Instr → Bool
  | .clear | .gfMul _ _ | .gfXtime _ | .aesSbox _ | .aesInvsbox _ | .desFeistel _ | .rc4Prga _ => true
  | _ => false

/-- R41: the commands that may write X. -/
def Instr.writesX : Instr → Bool
  | .clear | .ccInit | .ccQr _ | .ccDround | .ccBlock | .ccFeedfwd => true
  | _ => false

/-- R40, R46: the commands that may write RS, RC4_I and RC4_J. -/
def Instr.writesRc4 : Instr → Bool
  | .clear | .rc4Ksa | .rc4Prga _ => true
  | _ => false

end Sys2Proof

namespace Sys2Proof.Machine

/-- R293 with code 0: BUSY <- 0, DONE <- 1, ERR <- 0, ERRCODE <- 0, and no other field. -/
def State.succeeded (s : State) : State :=
  { s with
    pend := { valid := false, word := s.pend.word }
    status := { s.status with done := true, err := false, errcode := 0 } }

/-- R293 with an error code: BUSY <- 0, DONE <- 1, ERR <- 1, ERRCODE <- code, and no other field. -/
def State.failedWith (s : State) (code : BitVec 4) : State :=
  { s with
    pend := { valid := false, word := s.pend.word }
    status := { s.status with done := true, err := true, errcode := code } }

/-- The commands of a list performed one after the other. -/
def runCommands : List Instr → State → Result
  | [], s => .next s
  | i :: rest, s =>
    match exec i s with
    | .next t => runCommands rest t
    | .fault f => .fault f
    | .refused r => .refused r

/-- `k` steps, one after the other. -/
def runSteps : Nat → State → Result
  | 0, s => .next s
  | k + 1, s =>
    match step s with
    | .next t => runSteps k t
    | .fault f => .fault f
    | .refused r => .refused r

/-- byteswap_32(v) = v[7:0] : v[15:8] : v[23:16] : v[31:24] (R262). -/
def byteswap32 (v : Word) : Word := v.extractLsb' 0 8 ++ v.extractLsb' 8 8 ++ v.extractLsb' 16 8 ++ v.extractLsb' 24 8

/-- A byte offset of the window that a 32-bit access may name (R71). -/
def windowOff (off : Nat) : Prop := off % 4 = 0 ∧ off < 0x1000

/-- R71: the shape of a host access that has a meaning. -/
def Access.legal (a : Access) : Prop :=
  a.master = .host ∧ a.bytes = 4 ∧ a.lanes = 0xF ∧ a.off % 4 = 0 ∧ a.off < 0x1000

/-- The host write `wr off, v` (R110) performed on a state. -/
def State.wr (s : State) (off : Nat) (v : Word) : Result :=
  s.hostAccess { master := .host, off := off, bytes := 4, lanes := 0xF, op := .write v }

/-- The host read `rd off` (R110) performed on a state. -/
def State.rd (s : State) (off : Nat) : Result :=
  s.hostAccess { master := .host, off := off, bytes := 4, lanes := 0xF, op := .read }

/-- A machine at rest: no command pending and the reset input released. -/
def State.idle (s : State) : Prop := s.pend.valid = false ∧ s.resetLine = false

/-- The relations between fields that hold after reset and that every step keeps. -/
structure State.Inv (s : State) : Prop where
  /-- R27: ERR = 1 exactly when ERRCODE is not 0. -/
  errIffCode : s.status.err = true ↔ s.status.errcode ≠ 0
  /-- R291: codes 6 to 15 are never produced. -/
  codeRange : s.status.errcode.toNat ≤ 5
  /-- R120, R22, R28: while a command is pending DONE, ERR and ERRCODE are 0 and CMD still holds the pending word. -/
  pendingFresh : s.pend.valid = true →
    s.status.done = false ∧ s.status.err = false ∧ s.status.errcode = 0 ∧ s.cmd = s.pend.word
  /-- R331, R124: while no command is pending the slot is as empty as after reset (log entry 8). -/
  pendEmpty : s.pend.valid = false → s.pend.word = 0
  /-- R330: no command is pending while reset is asserted. -/
  resetIdle : s.resetLine = true → s.pend.valid = false
  /-- R29, R30, R43, R44: with AES_RKV = 1 W and DW hold the schedules of some accepted key, and AES_NR is its round count. -/
  aesLoaded : s.status.aesRkv = true → ∃ (keylen : Byte) (key : Vector Word 8) (z : AesSize),
    aesSize keylen = some z ∧ s.status.aesNr = z.nr ∧ s.w = expandKey z key ∧ s.dw = decSchedule z.nr.toNat s.w
  /-- R30, R43, R44: with AES_RKV = 0 AES_NR is 0 and W and DW are 0. -/
  aesEmpty : s.status.aesRkv = false →
    s.status.aesNr = .zero ∧ s.w = Vector.replicate 60 0 ∧ s.dw = Vector.replicate 60 0
  /-- R29, R45: with DES_SKV = 1 SK holds the subkeys of some key. -/
  desLoaded : s.status.desSkv = true → ∃ k : BitVec 64, s.sk = desSubkeys k
  /-- R45: with DES_SKV = 0 SK is 0. -/
  desEmpty : s.status.desSkv = false → s.sk = Vector.replicate 16 0
  /-- R240: with RC4_RDY = 1 RS is a permutation of 0..255. -/
  rc4Loaded : s.status.rc4Rdy = true → s.rs.toList.Perm ((List.range 256).map (BitVec.ofNat 8))
  /-- R40, R46: with RC4_RDY = 0 RS and both indices are 0. -/
  rc4Empty : s.status.rc4Rdy = false → s.rs = Vector.replicate 256 0 ∧ s.rc4I = 0 ∧ s.rc4J = 0
  /-- R42, R338: with CC_INIT = 1 XI is an initial state CC.INIT built. -/
  ccLoaded : s.status.ccInit = true → ∃ (key : Vector Word 8) (ctr : Word) (nonce : Vector Word 3),
    s.xi = chachaInit s.params.wordOrder key ctr nonce
  /-- R42: with CC_INIT = 0 XI is 0. -/
  ccEmpty : s.status.ccInit = false → s.xi = Vector.replicate 16 0

end Sys2Proof.Machine
end

