-- ==== Sys2Proof/Certificates/Slice0/Obligations.lean ====
section
/-! DEFINITION. The statements for the provers, family by family. Each one that gives a command's next state does so as an equation of the whole state,
so that it is the command's result and its frame in one. -/

open Sys2Proof Sys2Proof.Machine

section Encoding

/-- R103, R108: the word of every command decodes to that command with its operands. -/
def Obligations.DecodeOfEncodeIsSelf : Prop :=
  ∀ i : Instr, decode (encode i) = .ok i

/-- R104 to R106, R108: decoding is total, it accepts exactly the words whose fields are legal, and a word it accepts is the word of the command it
gives, so that each command has one word. -/
def Obligations.DecodeAcceptsExactlyLegalWords : Prop :=
  ∀ w : Word,
    ((∃ i, decode w = .ok i) ↔ (Fields.ofWord w).wf = true) ∧
    (∀ i, decode w = .ok i → encode i = w)

/-- R103's examples, the command words 95_test_vectors.md section 2 lists, and one word for each reason of R108 to reject. -/
def Obligations.SpecCommandWordsDecode : Prop :=
  decode 0x00000000 = .ok .nop ∧ decode 0x00000001 = .ok .clear ∧ decode 0x00000313 = .ok (.aesAddrk 3) ∧
  decode 0x0000051B = .ok (.aesEncrnd 5) ∧ decode 0x00835720 = .ok (.gfMul 0x57 0x83) ∧
  decode 0x00001034 = .ok (.desRound 16) ∧ decode 0x00000451 = .ok (.rc4Prga 4) ∧ decode 0x00000671 = .ok (.ccQr 6) ∧
  decode 0x01000000 = .error .rsvNonzero ∧ decode 0x00000002 = .error .reservedOp ∧
  decode 0x00000114 = .error .unusedN ∧ decode 0x00010013 = .error .unusedM

/-- R104, R105, R106: a pending word with RSV not 0, a reserved OP, or a field not 0 that its command does not use completes with
IllegalCommand (5), whatever else it holds, and changes no state other than STATUS; the engine step has taken the word out of its slot. -/
def Obligations.IllegalWordCompletesWithCode5 : Prop :=
  ∀ s : State, s.pend.valid = true →
    ((Fields.ofWord s.pend.word).rsv ≠ 0 ∨ (Fields.ofWord s.pend.word).opDefined = false ∨
      ((Fields.ofWord s.pend.word).n ≠ 0 ∧ (Fields.ofWord s.pend.word).usesN = false) ∨
      ((Fields.ofWord s.pend.word).m ≠ 0 ∧ (Fields.ofWord s.pend.word).usesM = false)) →
    ∃ t, s.perform .engine = .next t ∧ t.pend.valid = false ∧ t = { s.failedWith 5 with pend := t.pend }

/-- R109: the assembler accepts exactly the lines with a known mnemonic, as many operands as it takes and every operand in 0 to 255, and the command it
gives holds the operands in the order N, M. -/
def Obligations.AssemblerAcceptsExactlyWellFormedLines : Prop :=
  ∀ l : SourceLine,
    (assemble l).isSome = l.wf ∧
    (∀ i, assemble l = some i →
      fieldN (encode i) = BitVec.ofNat 8 (l.operands.getD 0 0) ∧ fieldM (encode i) = BitVec.ofNat 8 (l.operands.getD 1 0))

end Encoding

section Stepping

/-- R121, R122: when a command is pending and its word decodes to `i`, the engine's turn is `exec i` on the state with the slot empty (its word 0: log
entry 8); when the word decodes to no command, it is completion with IllegalCommand (5) there. It is the engine's turn when the agenda is empty or its
first event is the engine's; that event is consumed. The agenda is the model's own (log entry 1). -/
def Obligations.StepRunsDecodedCommand : Prop :=
  ∀ s : State, s.pend.valid = true →
    (∀ i : Instr, decode s.pend.word = .ok i →
      (s.agenda = [] → step s = exec i { s with pend := { valid := false, word := 0 } }) ∧
      (∀ rest, s.agenda = .engine :: rest →
        step s = exec i { s with pend := { valid := false, word := 0 }, agenda := rest })) ∧
    (∀ e : DecodeError, decode s.pend.word = .error e →
      (s.agenda = [] → step s = .next (State.failedWith { s with pend := { valid := false, word := 0 } } 5)) ∧
      (∀ rest, s.agenda = .engine :: rest →
        step s = .next (State.failedWith { s with pend := { valid := false, word := 0 }, agenda := rest } 5)))

/-- R5, R77, R121, R305, R330: a step performs the first event of the agenda and consumes it, and gives the engine the turn when the agenda is empty; a
host access goes to the register window; the engine does nothing when no command is pending. The agenda is the model's own (log entry 1). -/
def Obligations.StepFollowsTheAgenda : Prop :=
  ∀ s : State,
    (∀ e rest, s.agenda = e :: rest → step s = State.perform { s with agenda := rest } e) ∧
    (s.agenda = [] → step s = s.perform .engine) ∧
    (∀ a, s.perform (.access a) = s.hostAccess a) ∧
    (s.pend.valid = false → s.perform .engine = .next s)

/-- R72, R80, 93 part 1: a step answers a next state unless it is an access that R71 gives no meaning; no command and no other event ever stops the
machine. That such an access stops the machine also while reset is asserted, when R330 ignores accesses, is the model's reading (log entry 9, DEDUCED),
and the step takes its event from the model's own agenda (log entry 1). -/
def Obligations.StepStopsExactlyOnIllegalAccess : Prop :=
  ∀ s : State, (∃ t, step s = .next t) ↔ ¬ ∃ a rest, s.agenda = .access a :: rest ∧ ¬ a.legal

/-- R110, R78 (marked "[derived: from rules R73, R77]"), R293: the pseudo-operation `cmd` ends, for every number of polls before the engine's turn, with the command performed once, BUSY = 0,
DONE = 1 and the last read returning the completed STATUS. The interleaving is the model's agenda (log entry 1) and the slot is
empty once taken (log entry 8). -/
def Obligations.CmdPseudoOperationCompletes : Prop :=
  ∀ (s : State) (i : Instr) (k : Nat) (rest : List Event), s.idle → s.agenda = cmdEvents i k ++ rest →
    ∃ u, exec i { s with
            cmd := encode i
            pend := { valid := false, word := 0 }
            status := { s.status with done := false, err := false, errcode := 0 } } = .next u ∧
      u.pend.valid = false ∧ u.status.done = true ∧
      runSteps (k + 3) s = .next { u with agenda := rest, rdata := u.statusWord }

end Stepping

section Bus

/-- R120: a write of v to CMD while BUSY = 0 issues v, whatever word it is; while BUSY = 1 it is dropped, sets OVR and changes nothing else. -/
def Obligations.IssueTakesTheWord : Prop :=
  ∀ (s : State) (v : Word), s.resetLine = false →
    (s.pend.valid = false →
      s.wr 0x000 v = .next { s with
        cmd := v
        pend := { valid := true, word := v }
        status := { s.status with done := false, err := false, errcode := 0 } }) ∧
    (s.pend.valid = true → s.wr 0x000 v = .next { s with status := { s.status with ovr := true } })

/-- R28: OVR is set by a write to any offset but STATUS and IRQEN while BUSY = 1, which changes no other state. Of all that an agent can do, only a W1C
write of STATUS, the CLEAR command and reset clear it (so issue and every other completion leave it unchanged), and only such a write sets it. -/
def Obligations.OverrunIsSetByDroppedWriteAndSticky : Prop :=
  (∀ (s : State) (off : Nat) (v : Word), s.pend.valid = true → s.resetLine = false → windowOff off →
    off ≠ 0x004 → off ≠ 0x008 → s.wr off v = .next { s with status := { s.status with ovr := true } }) ∧
  (∀ (s t : State) (e : Event), s.perform e = .next t → s.status.ovr = true → t.status.ovr = false →
    (∃ a v, e = .access a ∧ a.op = .write v ∧ a.off = 0x004 ∧ v.getLsbD 3 = true) ∨ e = .assertReset ∨
    (e = .engine ∧ s.pend.valid = true ∧ decode s.pend.word = .ok .clear)) ∧
  (∀ (s t : State) (e : Event), s.perform e = .next t → s.status.ovr = false → t.status.ovr = true →
    ∃ a v, e = .access a ∧ a.op = .write v ∧ a.off ≠ 0x004 ∧ a.off ≠ 0x008 ∧ s.pend.valid = true)

/-- R24, R27: a write of STATUS, whether or not a command is pending, clears DONE, ERR and OVR where it holds a 1, ERRCODE with ERR, and changes nothing
else. -/
def Obligations.StatusWriteClearsOnes : Prop :=
  ∀ (s : State) (v : Word), s.resetLine = false →
    s.wr 0x004 v = .next { s with status := { s.status with
      done := s.status.done && !v.getLsbD 1
      err := s.status.err && !v.getLsbD 2
      ovr := s.status.ovr && !v.getLsbD 3
      errcode := if v.getLsbD 2 = true then 0 else s.status.errcode } }

/-- R24, R23, R30: a read of STATUS, whether or not a command is pending, returns BUSY = PEND.v, the other fields at their places, and 0 in bits
31:16. -/
def Obligations.StatusReadsItsFields : Prop :=
  ∀ s : State, s.resetLine = false → ∃ v : Word, s.rd 0x004 = .next { s with rdata := v } ∧
    v.getLsbD 0 = s.pend.valid ∧ v.getLsbD 1 = s.status.done ∧ v.getLsbD 2 = s.status.err ∧ v.getLsbD 3 = s.status.ovr ∧
    v.extractLsb' 4 4 = s.status.errcode ∧
    v.getLsbD 8 = s.status.aesRkv ∧ v.getLsbD 9 = s.status.desSkv ∧ v.getLsbD 10 = s.status.rc4Rdy ∧
    v.getLsbD 11 = s.status.ccInit ∧
    (v.extractLsb' 12 4).toNat = (match s.status.aesNr with | .zero => 0 | .ten => 10 | .twelve => 12 | .fourteen => 14) ∧
    v.extractLsb' 16 16 = 0

/-- R74, R31, R32, R34, R36 to R38, R41: the registers a host may write store the written value, LEN masked to 16 bits and IRQEN to 3 (IRQEN also while
a command is pending), and nothing else changes. -/
def Obligations.WritableRegistersStoreTheirFields : Prop :=
  ∀ (s : State) (v : Word), s.resetLine = false →
    (s.wr 0x008 v = .next { s with irqen := v.extractLsb' 0 3 }) ∧
    (s.pend.valid = false →
      s.wr 0x00C v = .next { s with keylen := v.extractLsb' 0 8, ivlen := v.extractLsb' 8 8 } ∧
      s.wr 0x014 v = .next { s with ctr := v } ∧
      (∀ i : Fin 8, s.wr (0x020 + 4 * i.val) v = .next { s with key := s.key.set i.val v }) ∧
      (∀ i : Fin 4, s.wr (0x040 + 4 * i.val) v = .next { s with blk := s.blk.set i.val v }) ∧
      (∀ i : Fin 3, s.wr (0x050 + 4 * i.val) v = .next { s with nonce := s.nonce.set i.val v }) ∧
      (∀ i : Fin 16, s.wr (0x100 + 4 * i.val) v = .next { s with x := s.x.set i.val v }))

/-- R48: with the reset input released and no command pending, a reserved offset reads 0, a write to a reserved offset or a read-only register is
ignored, and reserved fields read 0 and ignore writes; while BUSY = 1 the write is dropped and sets OVR. -/
def Obligations.ReservedAndReadOnlyIgnoreWrites : Prop :=
  ∀ s : State, s.resetLine = false →
    (s.pend.valid = false → ∀ off, windowOff off →
      (off < 0x100 ∧ 0x064 ≤ off) ∨ (off < 0x200 ∧ 0x180 ≤ off) ∨ (off < 0x300 ∧ 0x2F0 ≤ off) ∨
        (off < 0x400 ∧ 0x380 ≤ off) ∨ 0x8F0 ≤ off →
      s.rd off = .next { s with rdata := 0 } ∧ ∀ v, s.wr off v = .next s) ∧
    (∀ off v, windowOff off →
      off = 0x010 ∨ off = 0x018 ∨ off = 0x01C ∨ (off < 0x100 ∧ 0x05C ≤ off) ∨ 0x140 ≤ off →
      (s.pend.valid = false → s.wr off v = .next s) ∧
      (s.pend.valid = true → s.wr off v = .next { s with status := { s.status with ovr := true } })) ∧
    (∀ v, s.wr 0x004 v = s.wr 0x004 (v &&& 0x0000FFFF) ∧ s.wr 0x008 v = s.wr 0x008 (v &&& 0x00000007) ∧
      s.wr 0x00C v = s.wr 0x00C (v &&& 0x0000FFFF)) ∧
    (s.pend.valid = false → ∃ st ie ln ij : Word,
      s.rd 0x004 = .next { s with rdata := st } ∧ s.rd 0x008 = .next { s with rdata := ie } ∧
      s.rd 0x00C = .next { s with rdata := ln } ∧ s.rd 0x05C = .next { s with rdata := ij } ∧
      st.extractLsb' 16 16 = 0 ∧ ie.extractLsb' 3 29 = 0 ∧ ln.extractLsb' 16 16 = 0 ∧ ij.extractLsb' 16 16 = 0)

/-- R47: while no command is pending a read returns the register at its offset, and changes nothing but the read data. -/
def Obligations.ReadsReturnTheRegisterMap : Prop :=
  ∀ s : State, s.idle →
    s.rd 0x000 = .next { s with rdata := s.cmd } ∧
    s.rd 0x008 = .next { s with rdata := s.irqen.setWidth 32 } ∧
    s.rd 0x00C = .next { s with rdata := (0 : BitVec 16) ++ s.ivlen ++ s.keylen } ∧
    s.rd 0x010 = .next { s with rdata := s.result } ∧
    s.rd 0x014 = .next { s with rdata := s.ctr } ∧
    s.rd 0x018 = .next { s with rdata := s.desl } ∧
    s.rd 0x01C = .next { s with rdata := s.desr } ∧
    (∀ i : Fin 8, s.rd (0x020 + 4 * i.val) = .next { s with rdata := s.key[i] }) ∧
    (∀ i : Fin 4, s.rd (0x040 + 4 * i.val) = .next { s with rdata := s.blk[i] }) ∧
    (∀ i : Fin 3, s.rd (0x050 + 4 * i.val) = .next { s with rdata := s.nonce[i] }) ∧
    s.rd 0x05C = .next { s with rdata := (0 : BitVec 16) ++ s.rc4J ++ s.rc4I } ∧
    s.rd 0x060 = .next { s with rdata := 0x434F5245 } ∧
    (∀ i : Fin 16, s.rd (0x100 + 4 * i.val) = .next { s with rdata := s.x[i] }) ∧
    (∀ i : Fin 16, s.rd (0x140 + 4 * i.val) = .next { s with rdata := s.xi[i] }) ∧
    (∀ i : Fin 60, s.rd (0x200 + 4 * i.val) = .next { s with rdata := s.w[i] }) ∧
    (∀ i : Fin 16, s.rd (0x300 + 8 * i.val) = .next { s with rdata := s.sk[i].extractLsb' 0 32 }) ∧
    (∀ i : Fin 16, s.rd (0x304 + 8 * i.val) = .next { s with rdata := (s.sk[i].extractLsb' 32 16).setWidth 32 }) ∧
    (∀ i : Fin 256, s.rd (0x400 + 4 * i.val) = .next { s with rdata := s.rs[i].setWidth 32 }) ∧
    (∀ i : Fin 60, s.rd (0x800 + 4 * i.val) = .next { s with rdata := s.dw[i] })

/-- R73: while a command is pending reads of CMD, STATUS, IRQEN and ID return their values, and a read of any other offset returns the model's next
free draw (log entry 5), of which nothing is known. -/
def Obligations.BusyReadsReturnCurrentOrFreeValue : Prop :=
  ∀ s : State, s.pend.valid = true → s.resetLine = false →
    s.rd 0x000 = .next { s with rdata := s.cmd } ∧
    s.rd 0x004 = .next { s with rdata := s.statusWord } ∧
    s.rd 0x008 = .next { s with rdata := s.irqen.setWidth 32 } ∧
    s.rd 0x060 = .next { s with rdata := 0x434F5245 } ∧
    (∀ off, windowOff off → off ≠ 0x000 → off ≠ 0x004 → off ≠ 0x008 → off ≠ 0x060 →
      s.rd off = .next { s with rdata := Config.freeRead s.draws, draws := s.draws + 1 })

/-- R73: no read changes any state, STATUS included; only the model's read data and draw counter move. -/
def Obligations.ReadsHaveNoSideEffect : Prop :=
  ∀ (s t : State) (a : Access), a.op = .read → s.hostAccess a = .next t →
    t = { s with rdata := t.rdata, draws := t.draws }

/-- R336, R338, R29: no host access changes a schedule, a keyed state, XI, a result or a ready flag; so a rewritten KEY or LEN leaves the old schedule in
force. -/
def Obligations.HostAccessesKeepSchedules : Prop :=
  ∀ (s t : State) (a : Access), s.hostAccess a = .next t →
    t.w = s.w ∧ t.dw = s.dw ∧ t.sk = s.sk ∧ t.rs = s.rs ∧ t.rc4I = s.rc4I ∧ t.rc4J = s.rc4J ∧ t.xi = s.xi ∧
    t.desl = s.desl ∧ t.desr = s.desr ∧ t.result = s.result ∧ t.params = s.params ∧
    t.status.aesRkv = s.status.aesRkv ∧ t.status.desSkv = s.status.desSkv ∧ t.status.rc4Rdy = s.status.rc4Rdy ∧
    t.status.ccInit = s.status.ccInit ∧ t.status.aesNr = s.status.aesNr

/-- R298: the IRQ output is the formula over the bits STATUS and IRQEN read as, and it is 0 after reset. -/
def Obligations.IrqFollowsStatusAndEnables : Prop :=
  State.reset.irq = false ∧
  ∀ s : State, s.resetLine = false → ∃ st ie : Word,
    s.rd 0x004 = .next { s with rdata := st } ∧ s.rd 0x008 = .next { s with rdata := ie } ∧
    s.irq = ((st.getLsbD 1 && ie.getLsbD 0) || (st.getLsbD 2 && ie.getLsbD 1) || (st.getLsbD 3 && ie.getLsbD 2))

/-- R331, of the one state State.reset: after reset every offset of the window reads 0 but ID, the hidden slot PEND is empty with word 0, and IRQ is 0. -/
def Obligations.ResetLeavesTheStatedValues : Prop :=
  State.reset.pend.valid = false ∧ State.reset.pend.word = 0 ∧ State.reset.irq = false ∧
  ∀ off, windowOff off →
    State.reset.rd off = .next { State.reset with rdata := if off = 0x060 then 0x434F5245 else 0 }

/-- R330: reset returns every piece of state of R20 to its reset value in one step, a pending command included; while it is asserted writes are ignored
and reads return 0; when it is released nothing else changes. The line and the events are the model's (log entries 1 and 3). -/
def Obligations.ResetEventRestoresResetState : Prop :=
  ∀ s : State,
    (∀ rest, s.agenda = .assertReset :: rest →
      step s = .next { State.reset with
        params := s.params, resetLine := true, agenda := rest, rdata := s.rdata, draws := s.draws }) ∧
    (∀ rest, s.agenda = .releaseReset :: rest → step s = .next { s with resetLine := false, agenda := rest }) ∧
    (s.resetLine = true → ∀ off, windowOff off →
      (∀ v, s.wr off v = .next s) ∧ s.rd off = .next { s with rdata := 0 })

/-- R85, R303: a step of one instance leaves every other instance as it was, and an access goes only to the instances whose window holds its bus
address. How the platform is laid out is the model's own (log entry 10); R85 is marked "[derived: from rule R84 and 00_scope.md rule R10]". -/
def Obligations.InstancesAreIndependent : Prop :=
  (∀ (p q : List Inst) (k : Nat), platformStep p k = .next q →
    q.length = p.length ∧ ∀ j, j ≠ k → q[j]? = p[j]?) ∧
  (∀ (p : List Inst) (addr : Nat) (op : AccessOp) (j : Nat) (i : Inst), p[j]? = some i →
    (addr < i.place.base ∨ i.place.base + 0x1000 ≤ addr) → (deliver p addr op)[j]? = some i)

end Bus

section Control

/-- R123, R293: NOP does nothing beyond completion. -/
def Obligations.NopOnlyCompletes : Prop :=
  ∀ s : State, exec .nop s = .next s.succeeded

/-- R124, R333: CLEAR, issued and performed, leaves every piece of state at its reset value but for IRQEN, which keeps its value, CMD, which holds the
CLEAR word, and DONE = 1; it cannot abort a pending command. That CTR, which R34 says no command changes, and the registers whose own rules name other
writers are 0 too (log entry 11, DEDUCED, unsafe), and that PEND.word is 0 (log entry 8, DEDUCED), are the model's readings of R124. -/
def Obligations.ClearDiffersFromResetInThree : Prop :=
  (∀ s : State, exec .clear s = .next { State.reset with
      cmd := s.cmd
      irqen := s.irqen
      status := { State.reset.status with done := true }
      params := s.params, resetLine := s.resetLine, agenda := s.agenda, rdata := s.rdata, draws := s.draws }) ∧
  (∀ s : State, s.idle → ∃ u, s.wr 0x000 0x00000001 = .next u ∧
    u.perform .engine = .next { State.reset with
      cmd := 0x00000001
      irqen := s.irqen
      status := { State.reset.status with done := true }
      params := s.params, agenda := s.agenda, rdata := s.rdata, draws := s.draws }) ∧
  (∀ s : State, s.pend.valid = true → s.resetLine = false →
    s.wr 0x000 0x00000001 = .next { s with status := { s.status with ovr := true } })

end Control

section Aes

/-- R146, R147, R148, R151: with KEYLEN 16, 24 or 32 AES.KEYEXP completes; W is the recurrence of R147 over the key, DW is R148's, both 0 above word
4(Nr+1)-1, AES_NR = Nr, AES_RKV = 1, and nothing else changes. -/
def Obligations.AesKeyexpBuildsSchedules : Prop :=
  ∀ (s : State) (nk : Nat) (nr : AesRounds),
    (s.keylen = 16 ∧ nk = 4 ∧ nr = .ten) ∨ (s.keylen = 24 ∧ nk = 6 ∧ nr = .twelve) ∨ (s.keylen = 32 ∧ nk = 8 ∧ nr = .fourteen) →
    ∃ t, exec .aesKeyexp s = .next t ∧
      t = State.succeeded { s with
        w := t.w, dw := t.dw, status := { s.status with aesNr := nr, aesRkv := true } } ∧
      (∀ i, i < nk → schedWord t.w i =
        packBytes (keyByte s.key (4 * i)) (keyByte s.key (4 * i + 1)) (keyByte s.key (4 * i + 2)) (keyByte s.key (4 * i + 3))) ∧
      (∀ i, nk ≤ i → i < 4 * (nr.toNat + 1) → schedWord t.w i = schedWord t.w (i - nk) ^^^
        (if i % nk = 0 then subWord (rotWord (schedWord t.w (i - 1))) ^^^ rcon (i / nk)
         else if nk = 8 ∧ i % nk = 4 then subWord (schedWord t.w (i - 1))
         else schedWord t.w (i - 1))) ∧
      (∀ i, 4 * (nr.toNat + 1) ≤ i → i < 60 → schedWord t.w i = 0 ∧ schedWord t.dw i = 0) ∧
      (∀ n c, c < 4 → (n = 0 ∨ n = nr.toNat) → schedWord t.dw (4 * n + c) = schedWord t.w (4 * n + c)) ∧
      (∀ n c, c < 4 → 1 ≤ n → n + 1 ≤ nr.toNat → schedWord t.dw (4 * n + c) = invMixColumn (schedWord t.w (4 * n + c)))

/-- R152, R153, R163, R165: with AES_RKV = 1 AES.ENCBLK, AES.DECBLK, AES.ENCLAST and AES.DECLAST complete; they write BLK and nothing else. -/
def Obligations.AesBlockCommandsComplete : Prop :=
  ∀ s : State, s.status.aesRkv = true →
    exec .aesEncblk s = .next (State.succeeded { s with blk := encryptBlock s.w s.nr s.blk }) ∧
    exec .aesDecblk s = .next (State.succeeded { s with blk := decryptBlock s.dw s.nr s.blk }) ∧
    exec .aesEnclast s = .next (State.succeeded { s with blk := addRoundKey (shiftRows (subBytes s.blk)) s.w s.nr }) ∧
    exec .aesDeclast s = .next (State.succeeded { s with blk := addRoundKey (invShiftRows (invSubBytes s.blk)) s.dw 0 })

/-- R154, R161, R162, R164: with AES_RKV = 1 and n in range (0..Nr; 1..Nr-1 for the rounds) the AES commands of one round key complete; they write BLK
and nothing else. -/
def Obligations.AesRoundCommandsComplete : Prop :=
  ∀ (s : State) (n : Byte), s.status.aesRkv = true →
    (n.toNat ≤ s.nr →
      (∃ t, exec (.aesAddrk n) s = .next t ∧ t = State.succeeded { s with blk := t.blk } ∧
        ∀ c : Fin 4, t.blk[c] = s.blk[c] ^^^ schedWord s.w (4 * n.toNat + c.val)) ∧
      (∃ t, exec (.aesAdddrk n) s = .next t ∧ t = State.succeeded { s with blk := t.blk } ∧
        ∀ c : Fin 4, t.blk[c] = s.blk[c] ^^^ schedWord s.dw (4 * n.toNat + c.val))) ∧
    (1 ≤ n.toNat → n.toNat + 1 ≤ s.nr →
      exec (.aesEncrnd n) s = .next (State.succeeded { s with
        blk := addRoundKey (mixColumns (shiftRows (subBytes s.blk))) s.w n.toNat }) ∧
      exec (.aesDecrnd n) s = .next (State.succeeded { s with
        blk := addRoundKey (invMixColumns (invShiftRows (invSubBytes s.blk))) s.dw n.toNat }))

/-- R137 to R142, R155 to R160: the six stage commands complete from every state, write BLK and nothing else, and every cell s'[r][c] is the one the
stage's rule gives. -/
def Obligations.AesStageCommandsAreCellwise : Prop :=
  ∀ s : State,
    (∃ t, exec .aesSubbytes s = .next t ∧ t = State.succeeded { s with blk := t.blk } ∧
      ∀ r c, cell t.blk r c = sbox (cell s.blk r c)) ∧
    (∃ t, exec .aesInvsubbytes s = .next t ∧ t = State.succeeded { s with blk := t.blk } ∧
      ∀ r c, cell t.blk r c = invSbox (cell s.blk r c)) ∧
    (∃ t, exec .aesShiftrows s = .next t ∧ t = State.succeeded { s with blk := t.blk } ∧
      ∀ r c : Fin 4, cell t.blk r c = cell s.blk r (Fin.ofNat 4 (c.val + r.val))) ∧
    (∃ t, exec .aesInvshiftrows s = .next t ∧ t = State.succeeded { s with blk := t.blk } ∧
      ∀ r c : Fin 4, cell t.blk r c = cell s.blk r (Fin.ofNat 4 (c.val + 4 - r.val))) ∧
    (∃ t, exec .aesMixcols s = .next t ∧ t = State.succeeded { s with blk := t.blk } ∧
      ∀ r c : Fin 4, cell t.blk r c =
        gmul 2 (cell s.blk r c) ^^^ gmul 3 (cell s.blk (r + 1) c) ^^^ cell s.blk (r + 2) c ^^^ cell s.blk (r + 3) c) ∧
    (∃ t, exec .aesInvmixcols s = .next t ∧ t = State.succeeded { s with blk := t.blk } ∧
      ∀ r c : Fin 4, cell t.blk r c =
        gmul 14 (cell s.blk r c) ^^^ gmul 11 (cell s.blk (r + 1) c) ^^^ gmul 13 (cell s.blk (r + 2) c) ^^^
          gmul 9 (cell s.blk (r + 3) c))

/-- R152, R153 (D28): with a schedule loaded, AES.ENCBLK is AES.ADDRK 0, AES.ENCRND 1 to Nr-1, AES.ENCLAST, and AES.DECBLK is AES.ADDDRK Nr, AES.DECRND
Nr-1 down to 1, AES.DECLAST: the same next state. -/
def Obligations.AesBlockCommandsEqualRoundCommands : Prop :=
  ∀ s : State, s.status.aesRkv = true →
    runCommands ([.aesAddrk 0] ++ (List.range' 1 (s.nr - 1)).map (fun n => .aesEncrnd (BitVec.ofNat 8 n)) ++ [.aesEnclast]) s
      = exec .aesEncblk s ∧
    runCommands ([.aesAdddrk (BitVec.ofNat 8 s.nr)] ++
        (List.range' 1 (s.nr - 1)).reverse.map (fun n => .aesDecrnd (BitVec.ofNat 8 n)) ++ [.aesDeclast]) s
      = exec .aesDecblk s

/-- R170, which the spec marks as its own inference ("[derived: from rules R149, R150, R142 ...]"): for every key AES.KEYEXP accepts and every block value, AES.ENCBLK followed by AES.DECBLK leaves BLK as it was, and so does the reverse
order. -/
def Obligations.AesEncryptDecryptRestoresBlock : Prop :=
  ∀ s : State, s.keylen = 16 ∨ s.keylen = 24 ∨ s.keylen = 32 →
    ∃ k, exec .aesKeyexp s = .next k ∧ ∀ b : Block,
      (∃ t u, exec .aesEncblk { k with blk := b } = .next t ∧ exec .aesDecblk t = .next u ∧ u.blk = b) ∧
      (∃ t u, exec .aesDecblk { k with blk := b } = .next t ∧ exec .aesEncblk t = .next u ∧ u.blk = b)

/-- R156 to R160: each stage command followed by its inverse, in either order, restores BLK; so do four AES.SHIFTROWS; AES.INVSHIFTROWS is three
AES.SHIFTROWS. -/
def Obligations.AesStageInversesRestoreBlock : Prop :=
  ∀ s : State,
    runCommands [.aesSubbytes, .aesInvsubbytes] s = .next s.succeeded ∧
    runCommands [.aesInvsubbytes, .aesSubbytes] s = .next s.succeeded ∧
    runCommands [.aesShiftrows, .aesInvshiftrows] s = .next s.succeeded ∧
    runCommands [.aesInvshiftrows, .aesShiftrows] s = .next s.succeeded ∧
    runCommands [.aesMixcols, .aesInvmixcols] s = .next s.succeeded ∧
    runCommands [.aesInvmixcols, .aesMixcols] s = .next s.succeeded ∧
    runCommands [.aesShiftrows, .aesShiftrows, .aesShiftrows, .aesShiftrows] s = .next s.succeeded ∧
    runCommands [.aesShiftrows, .aesShiftrows, .aesShiftrows] s = exec .aesInvshiftrows s

/-- R166 to R169: the four query commands complete from every state; they write RESULT, zero-extended, and nothing else. -/
def Obligations.GfAndSboxQueriesWriteResult : Prop :=
  ∀ (s : State) (a b : Byte),
    exec (.gfMul a b) s = .next (State.succeeded { s with result := (0 : BitVec 24) ++ gmul a b }) ∧
    exec (.gfXtime a) s = .next (State.succeeded { s with
      result := (0 : BitVec 24) ++ ((a <<< 1) ^^^ (if a.getLsbD 7 = true then 0x1B else 0x00)) }) ∧
    exec (.aesSbox a) s = .next (State.succeeded { s with result := (0 : BitVec 24) ++ sbox a }) ∧
    exec (.aesInvsbox a) s = .next (State.succeeded { s with result := (0 : BitVec 24) ++ invSbox a })

/-- R131, R132: gmul is the multiplication of a field whose addition is XOR: commutative, associative, distributive, with 0, 1 and unique inverses, and
multiplication by 2 is xtime. -/
def Obligations.GfMulIsFieldMultiplication : Prop :=
  (∀ a b, gmul a b = gmul b a) ∧ (∀ a b c, gmul (gmul a b) c = gmul a (gmul b c)) ∧
  (∀ a b c, gmul a (b ^^^ c) = gmul a b ^^^ gmul a c) ∧ (∀ a, gmul a 0 = 0) ∧ (∀ a, gmul a 1 = a) ∧
  (∀ a, a ≠ 0 → ∃ b, gmul a b = 1 ∧ ∀ c, gmul a c = 1 → c = b) ∧
  (∀ a, gmul 2 a = xtime a) ∧ (∀ a, gmul 3 a = xtime a ^^^ a)

/-- R134, R135, R168: SBOX is the inverse in GF(2^8) followed by the affine map with 0x63, INVSBOX is its inverse both ways, and SBOX has no fixed point
and no opposite fixed point. -/
def Obligations.SboxIsInverseThenAffineMap : Prop :=
  (∀ x y : Byte, gmul x y = 1 ∨ (x = 0 ∧ y = 0) →
    sbox x = y ^^^ y.rotateLeft 1 ^^^ y.rotateLeft 2 ^^^ y.rotateLeft 3 ^^^ y.rotateLeft 4 ^^^ 0x63) ∧
  (∀ x, invSbox (sbox x) = x ∧ sbox (invSbox x) = x) ∧
  (∀ x, sbox x ≠ x ∧ sbox x ≠ x ^^^ 0xFF)

end Aes

section Des

/-- R201, R200 (R201 is marked "[derived: from rule R200]"): output position j of a permutation is input position T[j], position 1 being the most significant bit on both sides (here j counts from 0). -/
def Obligations.PermuteSelectsInputPositions : Prop :=
  ∀ (w m : Nat) (x : BitVec w) (t : List Nat), t.length = m → ∀ (j : Nat) (h : j < t.length),
    (permute m x t).getLsbD (m - 1 - j) = x.getLsbD (w - t[j])

/-- R208, R219, R221: with KEYLEN = 8 DES.KEYSCHED completes; subkey n is PC-2 of C and D, the halves of PC-1 of KEY0:KEY1, each rotated left by the sum of
SH[1..n]; DES_SKV = 1 and nothing else changes. -/
def Obligations.DesKeyschedBuildsSubkeys : Prop :=
  ∀ s : State, s.keylen = 8 →
    ∃ t, exec .desKeysched s = .next t ∧
      t = State.succeeded { s with sk := t.sk, status := { s.status with desSkv := true } } ∧
      ∀ n, 1 ≤ n → n ≤ 16 →
        subkey t.sk n = permute 48
          (((permute 56 (s.key[0] ++ s.key[1]) pc1Table).extractLsb' 28 28).rotateLeft (shiftTable.take n).sum ++
            ((permute 56 (s.key[0] ++ s.key[1]) pc1Table).extractLsb' 0 28).rotateLeft (shiftTable.take n).sum)
          pc2Table

/-- R219, R221: two keys that differ only in the parity bits 8, 16, ..., 64 give the same subkeys. -/
def Obligations.DesParityBitsAffectNoSubkey : Prop :=
  ∀ s s' : State, s.keylen = 8 → s'.keylen = 8 →
    ((s.key[0] ++ s.key[1]) ^^^ (s'.key[0] ++ s'.key[1])) &&& 0xFEFEFEFEFEFEFEFE#64 = 0 →
    ∃ t t', exec .desKeysched s = .next t ∧ exec .desKeysched s' = .next t' ∧ t.sk = t'.sk

/-- R222, R223: with DES_SKV = 1 DES.ENCBLK and DES.DECBLK complete: DESL and DESR hold L and R after the sixteen rounds, BLK0:BLK1 is FP of R:L, BLK2 and
BLK3 keep their values, and nothing else changes. -/
def Obligations.DesBlockCommandsComplete : Prop :=
  ∀ s : State, s.status.desSkv = true →
    (∃ t, exec .desEncblk s = .next t ∧
      t = State.succeeded { s with blk := t.blk, desl := t.desl, desr := t.desr } ∧
      { l := t.desl, r := t.desr : Halves } = desRounds s.sk (List.range' 1 16) (s.blk[0] ++ s.blk[1]) ∧
      t.blk[0] ++ t.blk[1] = permute 64 (t.desr ++ t.desl) fpTable ∧ t.blk[2] = s.blk[2] ∧ t.blk[3] = s.blk[3]) ∧
    (∃ t, exec .desDecblk s = .next t ∧
      t = State.succeeded { s with blk := t.blk, desl := t.desl, desr := t.desr } ∧
      { l := t.desl, r := t.desr : Halves } = desRounds s.sk (List.range' 1 16).reverse (s.blk[0] ++ s.blk[1]) ∧
      t.blk[0] ++ t.blk[1] = permute 64 (t.desr ++ t.desl) fpTable ∧ t.blk[2] = s.blk[2] ∧ t.blk[3] = s.blk[3])

/-- R224 to R227: DES.IP and DES.FP complete from every state, DES.ROUND n and DES.FEISTEL n with DES_SKV = 1 and n in 1..16, each writing what its rule
gives and nothing else. -/
def Obligations.DesStepCommandsComplete : Prop :=
  ∀ (s : State) (n : Byte),
    exec .desIp s = .next (State.succeeded { s with
      desl := (permute 64 (s.blk[0] ++ s.blk[1]) ipTable).extractLsb' 32 32
      desr := (permute 64 (s.blk[0] ++ s.blk[1]) ipTable).extractLsb' 0 32 }) ∧
    exec .desFp s = .next (State.succeeded { s with
      blk := #v[(permute 64 (s.desr ++ s.desl) fpTable).extractLsb' 32 32, (permute 64 (s.desr ++ s.desl) fpTable).extractLsb' 0 32,
        s.blk[2], s.blk[3]] }) ∧
    (s.status.desSkv = true → 1 ≤ n.toNat → n.toNat ≤ 16 →
      exec (.desRound n) s = .next (State.succeeded { s with
        desl := s.desr, desr := s.desl ^^^ feistel s.desr (subkey s.sk n.toNat) }) ∧
      exec (.desFeistel n) s = .next (State.succeeded { s with result := feistel s.desr (subkey s.sk n.toNat) }))

/-- R222, R223 (D28): DES.ENCBLK is DES.IP, DES.ROUND 1 to 16, DES.FP, and DES.DECBLK is DES.IP, DES.ROUND 16 down to 1, DES.FP: the same next state. -/
def Obligations.DesBlockCommandsEqualRoundCommands : Prop :=
  ∀ s : State, s.status.desSkv = true →
    runCommands ([.desIp] ++ (List.range' 1 16).map (fun n => .desRound (BitVec.ofNat 8 n)) ++ [.desFp]) s = exec .desEncblk s ∧
    runCommands ([.desIp] ++ (List.range' 1 16).reverse.map (fun n => .desRound (BitVec.ofNat 8 n)) ++ [.desFp]) s
      = exec .desDecblk s

/-- R228, which the spec marks as its own inference ("[derived: from rule R220 ...]"): with a schedule in SK, whatever its subkeys, DES.ENCBLK followed by DES.DECBLK leaves BLK0:BLK1 as it was, so does the reverse order, and BLK2
and BLK3 are unchanged throughout. -/
def Obligations.DesEncryptDecryptRestoresBlock : Prop :=
  ∀ s : State, s.status.desSkv = true →
    (∃ t u, exec .desEncblk s = .next t ∧ exec .desDecblk t = .next u ∧ u.blk = s.blk ∧
      t.blk[2] = s.blk[2] ∧ t.blk[3] = s.blk[3]) ∧
    (∃ t u, exec .desDecblk s = .next t ∧ exec .desEncblk t = .next u ∧ u.blk = s.blk ∧
      t.blk[2] = s.blk[2] ∧ t.blk[3] = s.blk[3])

end Des

section RivestCipher

/-- R240, R242, R244: with KEYLEN 16 or 32 RC4.KSA completes; RS is the permutation the KSA builds from the key, a permutation of 0..255, both indices are
0, RC4_RDY = 1, and nothing else changes, whatever RS held before. -/
def Obligations.Rc4KsaBuildsPermutation : Prop :=
  ∀ s : State, s.keylen = 16 ∨ s.keylen = 32 →
    ∃ t, exec .rc4Ksa s = .next t ∧
      t = State.succeeded { s with
        rs := ksaPermutation (keyByte s.key) s.keylen.toNat, rc4I := 0, rc4J := 0
        status := { s.status with rc4Rdy := true } } ∧
      t.rs.toList.Perm ((List.range 256).map (BitVec.ofNat 8))

/-- R243, R245: with RC4_RDY = 1 and n in 1..4 RC4.PRGA n completes; it advances the RC4 state by exactly n steps, byte k of RESULT is the output of step
k+1 for k < n and 0 above, and nothing else changes. -/
def Obligations.Rc4PrgaProducesKeystream : Prop :=
  ∀ (s : State) (n : Byte), s.status.rc4Rdy = true → 1 ≤ n.toNat → n.toNat ≤ 4 →
    ∃ t, exec (.rc4Prga n) s = .next t ∧
      t = State.succeeded { s with rs := t.rs, rc4I := t.rc4I, rc4J := t.rc4J, result := t.result } ∧
      t.rc4 = prgaAdvance^[n.toNat] s.rc4 ∧
      ∀ k, k < 4 → laneByte t.result k = if k < n.toNat then prgaOutput (prgaAdvance^[k + 1] s.rc4) else 0

/-- R245: RC4.PRGA a followed by RC4.PRGA b gives the same RC4 state and the same bytes as one RC4.PRGA of a + b. -/
def Obligations.Rc4PrgaCountsCompose : Prop :=
  ∀ (s : State) (a b : Byte), s.status.rc4Rdy = true → 1 ≤ a.toNat → 1 ≤ b.toNat → a.toNat + b.toNat ≤ 4 →
    ∃ t u v, exec (.rc4Prga a) s = .next t ∧ exec (.rc4Prga b) t = .next u ∧ exec (.rc4Prga (a + b)) s = .next v ∧
      u.rc4 = v.rc4 ∧ v.result = t.result ||| (u.result >>> (8 * a.toNat))

end RivestCipher

section Chacha

/-- R260 to R265, R271: with KEYLEN = 32 and IVLEN = 12 CC.INIT completes; X and XI hold the constants, the key words, CTR and the nonce words in that
layout (byte-swapped under LE, as they stand under BE), CC_INIT = 1, and nothing else changes. -/
def Obligations.CcInitBuildsState : Prop :=
  ∀ s : State, s.keylen = 32 → s.ivlen = 12 →
    ∃ t, exec .ccInit s = .next t ∧
      t = State.succeeded { s with x := t.x, xi := t.x, status := { s.status with ccInit := true } } ∧
      t.x[0] = 0x61707865 ∧ t.x[1] = 0x3320646E ∧ t.x[2] = 0x79622D32 ∧ t.x[3] = 0x6B206574 ∧
      t.x[12] = s.ctr ∧
      (∀ (i : Nat) (h : i < 8), t.x[4 + i] = (match s.params.wordOrder with
        | .le => byteswap32 s.key[i]
        | .be => s.key[i])) ∧
      (∀ (i : Nat) (h : i < 3), t.x[13 + i] = (match s.params.wordOrder with
        | .le => byteswap32 s.nonce[i]
        | .be => s.nonce[i]))

/-- R266, R267, R272: CC.QR g with g in 0..7 completes; the four words of group g are mixed by the four add, xor, rotate steps (16, 12, 8, 7), the other
twelve words and everything else keep their values. -/
def Obligations.CcQrMixesOneGroup : Prop :=
  ∀ (s : State) (g : Byte) (h : g.toNat < 8),
    ∃ t, exec (.ccQr g) s = .next t ∧ t = State.succeeded { s with x := t.x } ∧
      (let q := qrGroup ⟨g.toNat, h⟩
       let a1 := s.x[q.a] + s.x[q.b]
       let d1 := (s.x[q.d] ^^^ a1).rotateLeft 16
       let c1 := s.x[q.c] + d1
       let b1 := (s.x[q.b] ^^^ c1).rotateLeft 12
       let a2 := a1 + b1
       let d2 := (d1 ^^^ a2).rotateLeft 8
       let c2 := c1 + d2
       let b2 := (b1 ^^^ c2).rotateLeft 7
       t.x[q.a] = a2 ∧ t.x[q.b] = b2 ∧ t.x[q.c] = c2 ∧ t.x[q.d] = d2 ∧
       ∀ i : Fin 16, i ≠ q.a → i ≠ q.b → i ≠ q.c → i ≠ q.d → t.x[i] = s.x[i])

/-- R268, R273: CC.DROUND completes from every state, writes X and nothing else, and gives the same next state as CC.QR 0 to 7 under STANDARD and as CC.QR
4 to 7, 0 to 3 under LISTED. -/
def Obligations.CcDroundEqualsQuarterRounds : Prop :=
  ∀ s : State, ∃ t, exec .ccDround s = .next t ∧ t = State.succeeded { s with x := t.x } ∧
    runCommands ((match s.params.qrOrder with
      | .standard => [0, 1, 2, 3, 4, 5, 6, 7]
      | .listed => [4, 5, 6, 7, 0, 1, 2, 3]).map Instr.ccQr) s = .next t

/-- R269, R270, R274: CC.BLOCK completes from every state, writes X and nothing else, and gives the same next state as ten CC.DROUND, followed by
CC.FEEDFWD exactly when CHACHA_FEEDFORWARD is ON. -/
def Obligations.CcBlockEqualsDoubleRounds : Prop :=
  ∀ s : State, ∃ t, exec .ccBlock s = .next t ∧ t = State.succeeded { s with x := t.x } ∧
    runCommands (List.replicate 10 .ccDround ++
      (match s.params.feedForward with
      | .on => [.ccFeedfwd]
      | .off => [])) s = .next t

/-- R275: CC.FEEDFWD completes from every state, whatever the parameters, adds XI into X word by word mod 2^32 and changes nothing else. -/
def Obligations.CcFeedfwdAddsInitialState : Prop :=
  ∀ s : State, ∃ t, exec .ccFeedfwd s = .next t ∧ t = State.succeeded { s with x := t.x } ∧
    ∀ i : Fin 16, t.x[i] = s.x[i] + s.xi[i]

/-- R267, R268 (95_test_vectors.md Q4): the quarter-round on each group and the double round in each order are bijections on X. -/
def Obligations.QuarterAndDoubleRoundAreBijective : Prop :=
  (∀ g : Fin 8, Function.Bijective fun x : Words16 => quarterRound x (qrGroup g)) ∧
  (∀ o : QrOrder, Function.Bijective (doubleRound o))

end Chacha

section Errors

/-- R291, R292, R151, R221, R244, R271: a schedule command whose KEYLEN is not in its accepted set completes with InvalidKeyLength (1), and CC.INIT with
a good KEYLEN and IVLEN other than 12 with InvalidIVLength (2); nothing else changes. -/
def Obligations.ScheduleCommandsRejectBadLengths : Prop :=
  ∀ s : State,
    (s.keylen ≠ 16 → s.keylen ≠ 24 → s.keylen ≠ 32 → exec .aesKeyexp s = .next (s.failedWith 1)) ∧
    (s.keylen ≠ 8 → exec .desKeysched s = .next (s.failedWith 1)) ∧
    (s.keylen ≠ 16 → s.keylen ≠ 32 → exec .rc4Ksa s = .next (s.failedWith 1)) ∧
    (s.keylen ≠ 32 → exec .ccInit s = .next (s.failedWith 1)) ∧
    (s.keylen = 32 → s.ivlen ≠ 12 → exec .ccInit s = .next (s.failedWith 2))

/-- R291, R292: a command that needs a ready flag that is 0 completes with NotReady (3), whatever its operand (readiness is checked before operand range);
nothing else changes. -/
def Obligations.UnreadyCommandsRaiseNotReady : Prop :=
  ∀ (s : State) (n : Byte),
    (s.status.aesRkv = false → ∀ i ∈ [.aesEncblk, .aesDecblk, .aesAddrk n, .aesAdddrk n, .aesEncrnd n, .aesEnclast, .aesDecrnd n, .aesDeclast],
      exec i s = .next (s.failedWith 3)) ∧
    (s.status.desSkv = false → ∀ i ∈ [.desEncblk, .desDecblk, .desRound n, .desFeistel n], exec i s = .next (s.failedWith 3)) ∧
    (s.status.rc4Rdy = false → exec (.rc4Prga n) s = .next (s.failedWith 3))

/-- R291: with the needed ready flag 1, a command whose N is outside its range completes with BadOperand (4); nothing else changes. -/
def Obligations.OperandsOutOfRangeRaiseBadOperand : Prop :=
  ∀ (s : State) (n : Byte),
    (s.status.aesRkv = true → s.nr < n.toNat → ∀ i ∈ [.aesAddrk n, .aesAdddrk n], exec i s = .next (s.failedWith 4)) ∧
    (s.status.aesRkv = true → (n.toNat < 1 ∨ s.nr ≤ n.toNat) → ∀ i ∈ [.aesEncrnd n, .aesDecrnd n], exec i s = .next (s.failedWith 4)) ∧
    (s.status.desSkv = true → (n.toNat < 1 ∨ 16 < n.toNat) → ∀ i ∈ [.desRound n, .desFeistel n], exec i s = .next (s.failedWith 4)) ∧
    (s.status.rc4Rdy = true → (n.toNat < 1 ∨ 4 < n.toNat) → exec (.rc4Prga n) s = .next (s.failedWith 4)) ∧
    (7 < n.toNat → exec (.ccQr n) s = .next (s.failedWith 4))

/-- R294: a command that completes with ERR = 1 changes no state other than STATUS.BUSY, DONE, ERR and ERRCODE. -/
def Obligations.FailedCommandsChangeOnlyStatus : Prop :=
  ∀ (i : Instr) (s t : State), exec i s = .next t → t.status.err = true →
    t = s.failedWith t.status.errcode ∧ t.status.errcode ≠ 0

/-- R293, R121, 93 part 1: every command answers a next state from every state: BUSY = 0, DONE = 1, ERR = 1 exactly with a code, which is at most 5; CMD,
IRQEN and, but for CLEAR, OVR and the word in the slot keep their values, and so do the parameters and what the outside world holds. -/
def Obligations.EveryCommandCompletes : Prop :=
  ∀ (i : Instr) (s : State), ∃ t, exec i s = .next t ∧
    t.pend.valid = false ∧ (i ≠ .clear → t.pend.word = s.pend.word) ∧ t.status.done = true ∧
    (t.status.err = true ↔ t.status.errcode ≠ 0) ∧ t.status.errcode.toNat ≤ 5 ∧
    t.cmd = s.cmd ∧ t.irqen = s.irqen ∧ (i ≠ .clear → t.status.ovr = s.status.ovr) ∧
    t.params = s.params ∧ t.resetLine = s.resetLine ∧ t.agenda = s.agenda ∧ t.rdata = s.rdata ∧ t.draws = s.draws

/-- R29, R33, R35 to R46 and the "State written" lines of the commands: which command may write which state: KEY, NONCE, LEN and CTR none but CLEAR;
BLK, DESL and DESR, RESULT, X, RC4's state by family; W, DW and AES_NR only AES.KEYEXP, SK only DES.KEYSCHED, XI only CC.INIT, each flag only its
command, and CLEAR; no DES command writes BLK2 or BLK3. CLEAR's place among the writers is R124's (40_control.md section 2); that R124 holds there against
R34 (no command changes CTR) and the rules that name other writers is the model's reading (log entry 11, DEDUCED). -/
def Obligations.CommandsWriteOnlyTheirState : Prop :=
  ∀ (i : Instr) (s t : State), exec i s = .next t →
    (i ≠ .clear → t.key = s.key ∧ t.nonce = s.nonce ∧ t.keylen = s.keylen ∧ t.ivlen = s.ivlen ∧ t.ctr = s.ctr) ∧
    (i.writesBlk = false → t.blk = s.blk) ∧
    (i.isDes = true → t.blk[2] = s.blk[2] ∧ t.blk[3] = s.blk[3]) ∧
    (i.writesHalves = false → t.desl = s.desl ∧ t.desr = s.desr) ∧
    (i.writesResult = false → t.result = s.result) ∧
    (i.writesX = false → t.x = s.x) ∧
    (i.writesRc4 = false → t.rs = s.rs ∧ t.rc4I = s.rc4I ∧ t.rc4J = s.rc4J) ∧
    (i ≠ .aesKeyexp → i ≠ .clear →
      t.w = s.w ∧ t.dw = s.dw ∧ t.status.aesNr = s.status.aesNr ∧ t.status.aesRkv = s.status.aesRkv) ∧
    (i ≠ .desKeysched → i ≠ .clear → t.sk = s.sk ∧ t.status.desSkv = s.status.desSkv) ∧
    (i ≠ .rc4Ksa → i ≠ .clear → t.status.rc4Rdy = s.status.rc4Rdy) ∧
    (i ≠ .ccInit → i ≠ .clear → t.xi = s.xi ∧ t.status.ccInit = s.status.ccInit)

end Errors

section Invariants

/-- The invariant of Sys2Proof/Safety.lean holds right after reset. -/
def Obligations.InvariantHoldsAtReset : Prop := State.reset.Inv

/-- Every step of every agent keeps the invariant: ERR agrees with ERRCODE, a pending command is fresh and an empty slot holds 0 (log entry 8), a set ready flag vouches for its schedule (RS is a
permutation of 0..255), and unloaded schedules are 0. -/
def Obligations.EveryStepKeepsInvariant : Prop :=
  ∀ s t : State, s.Inv → step s = .next t → t.Inv

end Invariants
end

