-- ==== Sys2Proof/Laws/State.lean ====
section
/-! SUPPORT. What each named update of the state does to each field, so that no later proof unfolds a record update. -/

namespace Sys2Proof.Machine

@[simp] theorem State.complete_cmd (s : State) (code : BitVec 4) : (s.complete code).cmd = s.cmd := rfl
@[simp] theorem State.complete_pend (s : State) (code : BitVec 4) : (s.complete code).pend = { s.pend with valid := false } := rfl
@[simp] theorem State.complete_status (s : State) (code : BitVec 4) : (s.complete code).status = s.status.completed code := rfl
@[simp] theorem State.complete_irqen (s : State) (code : BitVec 4) : (s.complete code).irqen = s.irqen := rfl
@[simp] theorem State.complete_keylen (s : State) (code : BitVec 4) : (s.complete code).keylen = s.keylen := rfl
@[simp] theorem State.complete_ivlen (s : State) (code : BitVec 4) : (s.complete code).ivlen = s.ivlen := rfl
@[simp] theorem State.complete_result (s : State) (code : BitVec 4) : (s.complete code).result = s.result := rfl
@[simp] theorem State.complete_ctr (s : State) (code : BitVec 4) : (s.complete code).ctr = s.ctr := rfl
@[simp] theorem State.complete_desl (s : State) (code : BitVec 4) : (s.complete code).desl = s.desl := rfl
@[simp] theorem State.complete_desr (s : State) (code : BitVec 4) : (s.complete code).desr = s.desr := rfl
@[simp] theorem State.complete_key (s : State) (code : BitVec 4) : (s.complete code).key = s.key := rfl
@[simp] theorem State.complete_blk (s : State) (code : BitVec 4) : (s.complete code).blk = s.blk := rfl
@[simp] theorem State.complete_nonce (s : State) (code : BitVec 4) : (s.complete code).nonce = s.nonce := rfl
@[simp] theorem State.complete_rc4I (s : State) (code : BitVec 4) : (s.complete code).rc4I = s.rc4I := rfl
@[simp] theorem State.complete_rc4J (s : State) (code : BitVec 4) : (s.complete code).rc4J = s.rc4J := rfl
@[simp] theorem State.complete_x (s : State) (code : BitVec 4) : (s.complete code).x = s.x := rfl
@[simp] theorem State.complete_xi (s : State) (code : BitVec 4) : (s.complete code).xi = s.xi := rfl
@[simp] theorem State.complete_w (s : State) (code : BitVec 4) : (s.complete code).w = s.w := rfl
@[simp] theorem State.complete_dw (s : State) (code : BitVec 4) : (s.complete code).dw = s.dw := rfl
@[simp] theorem State.complete_sk (s : State) (code : BitVec 4) : (s.complete code).sk = s.sk := rfl
@[simp] theorem State.complete_rs (s : State) (code : BitVec 4) : (s.complete code).rs = s.rs := rfl
@[simp] theorem State.complete_params (s : State) (code : BitVec 4) : (s.complete code).params = s.params := rfl
@[simp] theorem State.complete_resetLine (s : State) (code : BitVec 4) : (s.complete code).resetLine = s.resetLine := rfl
@[simp] theorem State.complete_agenda (s : State) (code : BitVec 4) : (s.complete code).agenda = s.agenda := rfl
@[simp] theorem State.complete_rdata (s : State) (code : BitVec 4) : (s.complete code).rdata = s.rdata := rfl
@[simp] theorem State.complete_draws (s : State) (code : BitVec 4) : (s.complete code).draws = s.draws := rfl

@[simp] theorem State.takePending_cmd (s : State) : (s.takePending).cmd = s.cmd := rfl
@[simp] theorem State.takePending_pend (s : State) : (s.takePending).pend = { valid := false, word := 0 } := rfl
@[simp] theorem State.takePending_status (s : State) : (s.takePending).status = s.status := rfl
@[simp] theorem State.takePending_irqen (s : State) : (s.takePending).irqen = s.irqen := rfl
@[simp] theorem State.takePending_keylen (s : State) : (s.takePending).keylen = s.keylen := rfl
@[simp] theorem State.takePending_ivlen (s : State) : (s.takePending).ivlen = s.ivlen := rfl
@[simp] theorem State.takePending_result (s : State) : (s.takePending).result = s.result := rfl
@[simp] theorem State.takePending_ctr (s : State) : (s.takePending).ctr = s.ctr := rfl
@[simp] theorem State.takePending_desl (s : State) : (s.takePending).desl = s.desl := rfl
@[simp] theorem State.takePending_desr (s : State) : (s.takePending).desr = s.desr := rfl
@[simp] theorem State.takePending_key (s : State) : (s.takePending).key = s.key := rfl
@[simp] theorem State.takePending_blk (s : State) : (s.takePending).blk = s.blk := rfl
@[simp] theorem State.takePending_nonce (s : State) : (s.takePending).nonce = s.nonce := rfl
@[simp] theorem State.takePending_rc4I (s : State) : (s.takePending).rc4I = s.rc4I := rfl
@[simp] theorem State.takePending_rc4J (s : State) : (s.takePending).rc4J = s.rc4J := rfl
@[simp] theorem State.takePending_x (s : State) : (s.takePending).x = s.x := rfl
@[simp] theorem State.takePending_xi (s : State) : (s.takePending).xi = s.xi := rfl
@[simp] theorem State.takePending_w (s : State) : (s.takePending).w = s.w := rfl
@[simp] theorem State.takePending_dw (s : State) : (s.takePending).dw = s.dw := rfl
@[simp] theorem State.takePending_sk (s : State) : (s.takePending).sk = s.sk := rfl
@[simp] theorem State.takePending_rs (s : State) : (s.takePending).rs = s.rs := rfl
@[simp] theorem State.takePending_params (s : State) : (s.takePending).params = s.params := rfl
@[simp] theorem State.takePending_resetLine (s : State) : (s.takePending).resetLine = s.resetLine := rfl
@[simp] theorem State.takePending_agenda (s : State) : (s.takePending).agenda = s.agenda := rfl
@[simp] theorem State.takePending_rdata (s : State) : (s.takePending).rdata = s.rdata := rfl
@[simp] theorem State.takePending_draws (s : State) : (s.takePending).draws = s.draws := rfl

@[simp] theorem State.issue_cmd (s : State) (v : Word) : (s.issue v).cmd = v := rfl
@[simp] theorem State.issue_pend (s : State) (v : Word) : (s.issue v).pend = { valid := true, word := v } := rfl
@[simp] theorem State.issue_status (s : State) (v : Word) : (s.issue v).status = s.status.issued := rfl
@[simp] theorem State.issue_irqen (s : State) (v : Word) : (s.issue v).irqen = s.irqen := rfl
@[simp] theorem State.issue_keylen (s : State) (v : Word) : (s.issue v).keylen = s.keylen := rfl
@[simp] theorem State.issue_ivlen (s : State) (v : Word) : (s.issue v).ivlen = s.ivlen := rfl
@[simp] theorem State.issue_result (s : State) (v : Word) : (s.issue v).result = s.result := rfl
@[simp] theorem State.issue_ctr (s : State) (v : Word) : (s.issue v).ctr = s.ctr := rfl
@[simp] theorem State.issue_desl (s : State) (v : Word) : (s.issue v).desl = s.desl := rfl
@[simp] theorem State.issue_desr (s : State) (v : Word) : (s.issue v).desr = s.desr := rfl
@[simp] theorem State.issue_key (s : State) (v : Word) : (s.issue v).key = s.key := rfl
@[simp] theorem State.issue_blk (s : State) (v : Word) : (s.issue v).blk = s.blk := rfl
@[simp] theorem State.issue_nonce (s : State) (v : Word) : (s.issue v).nonce = s.nonce := rfl
@[simp] theorem State.issue_rc4I (s : State) (v : Word) : (s.issue v).rc4I = s.rc4I := rfl
@[simp] theorem State.issue_rc4J (s : State) (v : Word) : (s.issue v).rc4J = s.rc4J := rfl
@[simp] theorem State.issue_x (s : State) (v : Word) : (s.issue v).x = s.x := rfl
@[simp] theorem State.issue_xi (s : State) (v : Word) : (s.issue v).xi = s.xi := rfl
@[simp] theorem State.issue_w (s : State) (v : Word) : (s.issue v).w = s.w := rfl
@[simp] theorem State.issue_dw (s : State) (v : Word) : (s.issue v).dw = s.dw := rfl
@[simp] theorem State.issue_sk (s : State) (v : Word) : (s.issue v).sk = s.sk := rfl
@[simp] theorem State.issue_rs (s : State) (v : Word) : (s.issue v).rs = s.rs := rfl
@[simp] theorem State.issue_params (s : State) (v : Word) : (s.issue v).params = s.params := rfl
@[simp] theorem State.issue_resetLine (s : State) (v : Word) : (s.issue v).resetLine = s.resetLine := rfl
@[simp] theorem State.issue_agenda (s : State) (v : Word) : (s.issue v).agenda = s.agenda := rfl
@[simp] theorem State.issue_rdata (s : State) (v : Word) : (s.issue v).rdata = s.rdata := rfl
@[simp] theorem State.issue_draws (s : State) (v : Word) : (s.issue v).draws = s.draws := rfl

@[simp] theorem State.withByteResult_cmd (s : State) (v : Byte) : (s.withByteResult v).cmd = s.cmd := rfl
@[simp] theorem State.withByteResult_pend (s : State) (v : Byte) : (s.withByteResult v).pend = s.pend := rfl
@[simp] theorem State.withByteResult_status (s : State) (v : Byte) : (s.withByteResult v).status = s.status := rfl
@[simp] theorem State.withByteResult_irqen (s : State) (v : Byte) : (s.withByteResult v).irqen = s.irqen := rfl
@[simp] theorem State.withByteResult_keylen (s : State) (v : Byte) : (s.withByteResult v).keylen = s.keylen := rfl
@[simp] theorem State.withByteResult_ivlen (s : State) (v : Byte) : (s.withByteResult v).ivlen = s.ivlen := rfl
@[simp] theorem State.withByteResult_result (s : State) (v : Byte) : (s.withByteResult v).result = v.setWidth 32 := rfl
@[simp] theorem State.withByteResult_ctr (s : State) (v : Byte) : (s.withByteResult v).ctr = s.ctr := rfl
@[simp] theorem State.withByteResult_desl (s : State) (v : Byte) : (s.withByteResult v).desl = s.desl := rfl
@[simp] theorem State.withByteResult_desr (s : State) (v : Byte) : (s.withByteResult v).desr = s.desr := rfl
@[simp] theorem State.withByteResult_key (s : State) (v : Byte) : (s.withByteResult v).key = s.key := rfl
@[simp] theorem State.withByteResult_blk (s : State) (v : Byte) : (s.withByteResult v).blk = s.blk := rfl
@[simp] theorem State.withByteResult_nonce (s : State) (v : Byte) : (s.withByteResult v).nonce = s.nonce := rfl
@[simp] theorem State.withByteResult_rc4I (s : State) (v : Byte) : (s.withByteResult v).rc4I = s.rc4I := rfl
@[simp] theorem State.withByteResult_rc4J (s : State) (v : Byte) : (s.withByteResult v).rc4J = s.rc4J := rfl
@[simp] theorem State.withByteResult_x (s : State) (v : Byte) : (s.withByteResult v).x = s.x := rfl
@[simp] theorem State.withByteResult_xi (s : State) (v : Byte) : (s.withByteResult v).xi = s.xi := rfl
@[simp] theorem State.withByteResult_w (s : State) (v : Byte) : (s.withByteResult v).w = s.w := rfl
@[simp] theorem State.withByteResult_dw (s : State) (v : Byte) : (s.withByteResult v).dw = s.dw := rfl
@[simp] theorem State.withByteResult_sk (s : State) (v : Byte) : (s.withByteResult v).sk = s.sk := rfl
@[simp] theorem State.withByteResult_rs (s : State) (v : Byte) : (s.withByteResult v).rs = s.rs := rfl
@[simp] theorem State.withByteResult_params (s : State) (v : Byte) : (s.withByteResult v).params = s.params := rfl
@[simp] theorem State.withByteResult_resetLine (s : State) (v : Byte) : (s.withByteResult v).resetLine = s.resetLine := rfl
@[simp] theorem State.withByteResult_agenda (s : State) (v : Byte) : (s.withByteResult v).agenda = s.agenda := rfl
@[simp] theorem State.withByteResult_rdata (s : State) (v : Byte) : (s.withByteResult v).rdata = s.rdata := rfl
@[simp] theorem State.withByteResult_draws (s : State) (v : Byte) : (s.withByteResult v).draws = s.draws := rfl

@[simp] theorem State.withBlock_cmd (s : State) (b : Block) : (s.withBlock b).cmd = s.cmd := rfl
@[simp] theorem State.withBlock_pend (s : State) (b : Block) : (s.withBlock b).pend = s.pend := rfl
@[simp] theorem State.withBlock_status (s : State) (b : Block) : (s.withBlock b).status = s.status := rfl
@[simp] theorem State.withBlock_irqen (s : State) (b : Block) : (s.withBlock b).irqen = s.irqen := rfl
@[simp] theorem State.withBlock_keylen (s : State) (b : Block) : (s.withBlock b).keylen = s.keylen := rfl
@[simp] theorem State.withBlock_ivlen (s : State) (b : Block) : (s.withBlock b).ivlen = s.ivlen := rfl
@[simp] theorem State.withBlock_result (s : State) (b : Block) : (s.withBlock b).result = s.result := rfl
@[simp] theorem State.withBlock_ctr (s : State) (b : Block) : (s.withBlock b).ctr = s.ctr := rfl
@[simp] theorem State.withBlock_desl (s : State) (b : Block) : (s.withBlock b).desl = s.desl := rfl
@[simp] theorem State.withBlock_desr (s : State) (b : Block) : (s.withBlock b).desr = s.desr := rfl
@[simp] theorem State.withBlock_key (s : State) (b : Block) : (s.withBlock b).key = s.key := rfl
@[simp] theorem State.withBlock_blk (s : State) (b : Block) : (s.withBlock b).blk = b := rfl
@[simp] theorem State.withBlock_nonce (s : State) (b : Block) : (s.withBlock b).nonce = s.nonce := rfl
@[simp] theorem State.withBlock_rc4I (s : State) (b : Block) : (s.withBlock b).rc4I = s.rc4I := rfl
@[simp] theorem State.withBlock_rc4J (s : State) (b : Block) : (s.withBlock b).rc4J = s.rc4J := rfl
@[simp] theorem State.withBlock_x (s : State) (b : Block) : (s.withBlock b).x = s.x := rfl
@[simp] theorem State.withBlock_xi (s : State) (b : Block) : (s.withBlock b).xi = s.xi := rfl
@[simp] theorem State.withBlock_w (s : State) (b : Block) : (s.withBlock b).w = s.w := rfl
@[simp] theorem State.withBlock_dw (s : State) (b : Block) : (s.withBlock b).dw = s.dw := rfl
@[simp] theorem State.withBlock_sk (s : State) (b : Block) : (s.withBlock b).sk = s.sk := rfl
@[simp] theorem State.withBlock_rs (s : State) (b : Block) : (s.withBlock b).rs = s.rs := rfl
@[simp] theorem State.withBlock_params (s : State) (b : Block) : (s.withBlock b).params = s.params := rfl
@[simp] theorem State.withBlock_resetLine (s : State) (b : Block) : (s.withBlock b).resetLine = s.resetLine := rfl
@[simp] theorem State.withBlock_agenda (s : State) (b : Block) : (s.withBlock b).agenda = s.agenda := rfl
@[simp] theorem State.withBlock_rdata (s : State) (b : Block) : (s.withBlock b).rdata = s.rdata := rfl
@[simp] theorem State.withBlock_draws (s : State) (b : Block) : (s.withBlock b).draws = s.draws := rfl

@[simp] theorem State.withHalves_cmd (s : State) (h : Halves) : (s.withHalves h).cmd = s.cmd := rfl
@[simp] theorem State.withHalves_pend (s : State) (h : Halves) : (s.withHalves h).pend = s.pend := rfl
@[simp] theorem State.withHalves_status (s : State) (h : Halves) : (s.withHalves h).status = s.status := rfl
@[simp] theorem State.withHalves_irqen (s : State) (h : Halves) : (s.withHalves h).irqen = s.irqen := rfl
@[simp] theorem State.withHalves_keylen (s : State) (h : Halves) : (s.withHalves h).keylen = s.keylen := rfl
@[simp] theorem State.withHalves_ivlen (s : State) (h : Halves) : (s.withHalves h).ivlen = s.ivlen := rfl
@[simp] theorem State.withHalves_result (s : State) (h : Halves) : (s.withHalves h).result = s.result := rfl
@[simp] theorem State.withHalves_ctr (s : State) (h : Halves) : (s.withHalves h).ctr = s.ctr := rfl
@[simp] theorem State.withHalves_desl (s : State) (h : Halves) : (s.withHalves h).desl = h.l := rfl
@[simp] theorem State.withHalves_desr (s : State) (h : Halves) : (s.withHalves h).desr = h.r := rfl
@[simp] theorem State.withHalves_key (s : State) (h : Halves) : (s.withHalves h).key = s.key := rfl
@[simp] theorem State.withHalves_blk (s : State) (h : Halves) : (s.withHalves h).blk = s.blk := rfl
@[simp] theorem State.withHalves_nonce (s : State) (h : Halves) : (s.withHalves h).nonce = s.nonce := rfl
@[simp] theorem State.withHalves_rc4I (s : State) (h : Halves) : (s.withHalves h).rc4I = s.rc4I := rfl
@[simp] theorem State.withHalves_rc4J (s : State) (h : Halves) : (s.withHalves h).rc4J = s.rc4J := rfl
@[simp] theorem State.withHalves_x (s : State) (h : Halves) : (s.withHalves h).x = s.x := rfl
@[simp] theorem State.withHalves_xi (s : State) (h : Halves) : (s.withHalves h).xi = s.xi := rfl
@[simp] theorem State.withHalves_w (s : State) (h : Halves) : (s.withHalves h).w = s.w := rfl
@[simp] theorem State.withHalves_dw (s : State) (h : Halves) : (s.withHalves h).dw = s.dw := rfl
@[simp] theorem State.withHalves_sk (s : State) (h : Halves) : (s.withHalves h).sk = s.sk := rfl
@[simp] theorem State.withHalves_rs (s : State) (h : Halves) : (s.withHalves h).rs = s.rs := rfl
@[simp] theorem State.withHalves_params (s : State) (h : Halves) : (s.withHalves h).params = s.params := rfl
@[simp] theorem State.withHalves_resetLine (s : State) (h : Halves) : (s.withHalves h).resetLine = s.resetLine := rfl
@[simp] theorem State.withHalves_agenda (s : State) (h : Halves) : (s.withHalves h).agenda = s.agenda := rfl
@[simp] theorem State.withHalves_rdata (s : State) (h : Halves) : (s.withHalves h).rdata = s.rdata := rfl
@[simp] theorem State.withHalves_draws (s : State) (h : Halves) : (s.withHalves h).draws = s.draws := rfl

@[simp] theorem State.withRc4_cmd (s : State) (st : Rc4) : (s.withRc4 st).cmd = s.cmd := rfl
@[simp] theorem State.withRc4_pend (s : State) (st : Rc4) : (s.withRc4 st).pend = s.pend := rfl
@[simp] theorem State.withRc4_status (s : State) (st : Rc4) : (s.withRc4 st).status = s.status := rfl
@[simp] theorem State.withRc4_irqen (s : State) (st : Rc4) : (s.withRc4 st).irqen = s.irqen := rfl
@[simp] theorem State.withRc4_keylen (s : State) (st : Rc4) : (s.withRc4 st).keylen = s.keylen := rfl
@[simp] theorem State.withRc4_ivlen (s : State) (st : Rc4) : (s.withRc4 st).ivlen = s.ivlen := rfl
@[simp] theorem State.withRc4_result (s : State) (st : Rc4) : (s.withRc4 st).result = s.result := rfl
@[simp] theorem State.withRc4_ctr (s : State) (st : Rc4) : (s.withRc4 st).ctr = s.ctr := rfl
@[simp] theorem State.withRc4_desl (s : State) (st : Rc4) : (s.withRc4 st).desl = s.desl := rfl
@[simp] theorem State.withRc4_desr (s : State) (st : Rc4) : (s.withRc4 st).desr = s.desr := rfl
@[simp] theorem State.withRc4_key (s : State) (st : Rc4) : (s.withRc4 st).key = s.key := rfl
@[simp] theorem State.withRc4_blk (s : State) (st : Rc4) : (s.withRc4 st).blk = s.blk := rfl
@[simp] theorem State.withRc4_nonce (s : State) (st : Rc4) : (s.withRc4 st).nonce = s.nonce := rfl
@[simp] theorem State.withRc4_rc4I (s : State) (st : Rc4) : (s.withRc4 st).rc4I = st.i := rfl
@[simp] theorem State.withRc4_rc4J (s : State) (st : Rc4) : (s.withRc4 st).rc4J = st.j := rfl
@[simp] theorem State.withRc4_x (s : State) (st : Rc4) : (s.withRc4 st).x = s.x := rfl
@[simp] theorem State.withRc4_xi (s : State) (st : Rc4) : (s.withRc4 st).xi = s.xi := rfl
@[simp] theorem State.withRc4_w (s : State) (st : Rc4) : (s.withRc4 st).w = s.w := rfl
@[simp] theorem State.withRc4_dw (s : State) (st : Rc4) : (s.withRc4 st).dw = s.dw := rfl
@[simp] theorem State.withRc4_sk (s : State) (st : Rc4) : (s.withRc4 st).sk = s.sk := rfl
@[simp] theorem State.withRc4_rs (s : State) (st : Rc4) : (s.withRc4 st).rs = st.rs := rfl
@[simp] theorem State.withRc4_params (s : State) (st : Rc4) : (s.withRc4 st).params = s.params := rfl
@[simp] theorem State.withRc4_resetLine (s : State) (st : Rc4) : (s.withRc4 st).resetLine = s.resetLine := rfl
@[simp] theorem State.withRc4_agenda (s : State) (st : Rc4) : (s.withRc4 st).agenda = s.agenda := rfl
@[simp] theorem State.withRc4_rdata (s : State) (st : Rc4) : (s.withRc4 st).rdata = s.rdata := rfl
@[simp] theorem State.withRc4_draws (s : State) (st : Rc4) : (s.withRc4 st).draws = s.draws := rfl

@[simp] theorem State.withX_cmd (s : State) (y : Words16) : (s.withX y).cmd = s.cmd := rfl
@[simp] theorem State.withX_pend (s : State) (y : Words16) : (s.withX y).pend = s.pend := rfl
@[simp] theorem State.withX_status (s : State) (y : Words16) : (s.withX y).status = s.status := rfl
@[simp] theorem State.withX_irqen (s : State) (y : Words16) : (s.withX y).irqen = s.irqen := rfl
@[simp] theorem State.withX_keylen (s : State) (y : Words16) : (s.withX y).keylen = s.keylen := rfl
@[simp] theorem State.withX_ivlen (s : State) (y : Words16) : (s.withX y).ivlen = s.ivlen := rfl
@[simp] theorem State.withX_result (s : State) (y : Words16) : (s.withX y).result = s.result := rfl
@[simp] theorem State.withX_ctr (s : State) (y : Words16) : (s.withX y).ctr = s.ctr := rfl
@[simp] theorem State.withX_desl (s : State) (y : Words16) : (s.withX y).desl = s.desl := rfl
@[simp] theorem State.withX_desr (s : State) (y : Words16) : (s.withX y).desr = s.desr := rfl
@[simp] theorem State.withX_key (s : State) (y : Words16) : (s.withX y).key = s.key := rfl
@[simp] theorem State.withX_blk (s : State) (y : Words16) : (s.withX y).blk = s.blk := rfl
@[simp] theorem State.withX_nonce (s : State) (y : Words16) : (s.withX y).nonce = s.nonce := rfl
@[simp] theorem State.withX_rc4I (s : State) (y : Words16) : (s.withX y).rc4I = s.rc4I := rfl
@[simp] theorem State.withX_rc4J (s : State) (y : Words16) : (s.withX y).rc4J = s.rc4J := rfl
@[simp] theorem State.withX_x (s : State) (y : Words16) : (s.withX y).x = y := rfl
@[simp] theorem State.withX_xi (s : State) (y : Words16) : (s.withX y).xi = s.xi := rfl
@[simp] theorem State.withX_w (s : State) (y : Words16) : (s.withX y).w = s.w := rfl
@[simp] theorem State.withX_dw (s : State) (y : Words16) : (s.withX y).dw = s.dw := rfl
@[simp] theorem State.withX_sk (s : State) (y : Words16) : (s.withX y).sk = s.sk := rfl
@[simp] theorem State.withX_rs (s : State) (y : Words16) : (s.withX y).rs = s.rs := rfl
@[simp] theorem State.withX_params (s : State) (y : Words16) : (s.withX y).params = s.params := rfl
@[simp] theorem State.withX_resetLine (s : State) (y : Words16) : (s.withX y).resetLine = s.resetLine := rfl
@[simp] theorem State.withX_agenda (s : State) (y : Words16) : (s.withX y).agenda = s.agenda := rfl
@[simp] theorem State.withX_rdata (s : State) (y : Words16) : (s.withX y).rdata = s.rdata := rfl
@[simp] theorem State.withX_draws (s : State) (y : Words16) : (s.withX y).draws = s.draws := rfl

@[simp] theorem State.releaseReset_cmd (s : State) : (s.releaseReset).cmd = s.cmd := rfl
@[simp] theorem State.releaseReset_pend (s : State) : (s.releaseReset).pend = s.pend := rfl
@[simp] theorem State.releaseReset_status (s : State) : (s.releaseReset).status = s.status := rfl
@[simp] theorem State.releaseReset_irqen (s : State) : (s.releaseReset).irqen = s.irqen := rfl
@[simp] theorem State.releaseReset_keylen (s : State) : (s.releaseReset).keylen = s.keylen := rfl
@[simp] theorem State.releaseReset_ivlen (s : State) : (s.releaseReset).ivlen = s.ivlen := rfl
@[simp] theorem State.releaseReset_result (s : State) : (s.releaseReset).result = s.result := rfl
@[simp] theorem State.releaseReset_ctr (s : State) : (s.releaseReset).ctr = s.ctr := rfl
@[simp] theorem State.releaseReset_desl (s : State) : (s.releaseReset).desl = s.desl := rfl
@[simp] theorem State.releaseReset_desr (s : State) : (s.releaseReset).desr = s.desr := rfl
@[simp] theorem State.releaseReset_key (s : State) : (s.releaseReset).key = s.key := rfl
@[simp] theorem State.releaseReset_blk (s : State) : (s.releaseReset).blk = s.blk := rfl
@[simp] theorem State.releaseReset_nonce (s : State) : (s.releaseReset).nonce = s.nonce := rfl
@[simp] theorem State.releaseReset_rc4I (s : State) : (s.releaseReset).rc4I = s.rc4I := rfl
@[simp] theorem State.releaseReset_rc4J (s : State) : (s.releaseReset).rc4J = s.rc4J := rfl
@[simp] theorem State.releaseReset_x (s : State) : (s.releaseReset).x = s.x := rfl
@[simp] theorem State.releaseReset_xi (s : State) : (s.releaseReset).xi = s.xi := rfl
@[simp] theorem State.releaseReset_w (s : State) : (s.releaseReset).w = s.w := rfl
@[simp] theorem State.releaseReset_dw (s : State) : (s.releaseReset).dw = s.dw := rfl
@[simp] theorem State.releaseReset_sk (s : State) : (s.releaseReset).sk = s.sk := rfl
@[simp] theorem State.releaseReset_rs (s : State) : (s.releaseReset).rs = s.rs := rfl
@[simp] theorem State.releaseReset_params (s : State) : (s.releaseReset).params = s.params := rfl
@[simp] theorem State.releaseReset_resetLine (s : State) : (s.releaseReset).resetLine = false := rfl
@[simp] theorem State.releaseReset_agenda (s : State) : (s.releaseReset).agenda = s.agenda := rfl
@[simp] theorem State.releaseReset_rdata (s : State) : (s.releaseReset).rdata = s.rdata := rfl
@[simp] theorem State.releaseReset_draws (s : State) : (s.releaseReset).draws = s.draws := rfl

@[simp] theorem State.zeroise_cmd (s : State) : (s.zeroise).cmd = s.cmd := rfl
@[simp] theorem State.zeroise_pend (s : State) : (s.zeroise).pend = { valid := false, word := 0 } := rfl
@[simp] theorem State.zeroise_status (s : State) : (s.zeroise).status = s.status.cleared := rfl
@[simp] theorem State.zeroise_irqen (s : State) : (s.zeroise).irqen = s.irqen := rfl
@[simp] theorem State.zeroise_keylen (s : State) : (s.zeroise).keylen = 0 := rfl
@[simp] theorem State.zeroise_ivlen (s : State) : (s.zeroise).ivlen = 0 := rfl
@[simp] theorem State.zeroise_result (s : State) : (s.zeroise).result = 0 := rfl
@[simp] theorem State.zeroise_ctr (s : State) : (s.zeroise).ctr = 0 := rfl
@[simp] theorem State.zeroise_desl (s : State) : (s.zeroise).desl = 0 := rfl
@[simp] theorem State.zeroise_desr (s : State) : (s.zeroise).desr = 0 := rfl
@[simp] theorem State.zeroise_key (s : State) : (s.zeroise).key = Vector.replicate 8 0 := rfl
@[simp] theorem State.zeroise_blk (s : State) : (s.zeroise).blk = Vector.replicate 4 0 := rfl
@[simp] theorem State.zeroise_nonce (s : State) : (s.zeroise).nonce = Vector.replicate 3 0 := rfl
@[simp] theorem State.zeroise_rc4I (s : State) : (s.zeroise).rc4I = 0 := rfl
@[simp] theorem State.zeroise_rc4J (s : State) : (s.zeroise).rc4J = 0 := rfl
@[simp] theorem State.zeroise_x (s : State) : (s.zeroise).x = Vector.replicate 16 0 := rfl
@[simp] theorem State.zeroise_xi (s : State) : (s.zeroise).xi = Vector.replicate 16 0 := rfl
@[simp] theorem State.zeroise_w (s : State) : (s.zeroise).w = Vector.replicate 60 0 := rfl
@[simp] theorem State.zeroise_dw (s : State) : (s.zeroise).dw = Vector.replicate 60 0 := rfl
@[simp] theorem State.zeroise_sk (s : State) : (s.zeroise).sk = Vector.replicate 16 0 := rfl
@[simp] theorem State.zeroise_rs (s : State) : (s.zeroise).rs = Vector.replicate 256 0 := rfl
@[simp] theorem State.zeroise_params (s : State) : (s.zeroise).params = s.params := rfl
@[simp] theorem State.zeroise_resetLine (s : State) : (s.zeroise).resetLine = s.resetLine := rfl
@[simp] theorem State.zeroise_agenda (s : State) : (s.zeroise).agenda = s.agenda := rfl
@[simp] theorem State.zeroise_rdata (s : State) : (s.zeroise).rdata = s.rdata := rfl
@[simp] theorem State.zeroise_draws (s : State) : (s.zeroise).draws = s.draws := rfl

@[simp] theorem State.assertReset_cmd (s : State) : (s.assertReset).cmd = State.reset.cmd := rfl
@[simp] theorem State.assertReset_pend (s : State) : (s.assertReset).pend = State.reset.pend := rfl
@[simp] theorem State.assertReset_status (s : State) : (s.assertReset).status = State.reset.status := rfl
@[simp] theorem State.assertReset_irqen (s : State) : (s.assertReset).irqen = State.reset.irqen := rfl
@[simp] theorem State.assertReset_keylen (s : State) : (s.assertReset).keylen = State.reset.keylen := rfl
@[simp] theorem State.assertReset_ivlen (s : State) : (s.assertReset).ivlen = State.reset.ivlen := rfl
@[simp] theorem State.assertReset_result (s : State) : (s.assertReset).result = State.reset.result := rfl
@[simp] theorem State.assertReset_ctr (s : State) : (s.assertReset).ctr = State.reset.ctr := rfl
@[simp] theorem State.assertReset_desl (s : State) : (s.assertReset).desl = State.reset.desl := rfl
@[simp] theorem State.assertReset_desr (s : State) : (s.assertReset).desr = State.reset.desr := rfl
@[simp] theorem State.assertReset_key (s : State) : (s.assertReset).key = State.reset.key := rfl
@[simp] theorem State.assertReset_blk (s : State) : (s.assertReset).blk = State.reset.blk := rfl
@[simp] theorem State.assertReset_nonce (s : State) : (s.assertReset).nonce = State.reset.nonce := rfl
@[simp] theorem State.assertReset_rc4I (s : State) : (s.assertReset).rc4I = State.reset.rc4I := rfl
@[simp] theorem State.assertReset_rc4J (s : State) : (s.assertReset).rc4J = State.reset.rc4J := rfl
@[simp] theorem State.assertReset_x (s : State) : (s.assertReset).x = State.reset.x := rfl
@[simp] theorem State.assertReset_xi (s : State) : (s.assertReset).xi = State.reset.xi := rfl
@[simp] theorem State.assertReset_w (s : State) : (s.assertReset).w = State.reset.w := rfl
@[simp] theorem State.assertReset_dw (s : State) : (s.assertReset).dw = State.reset.dw := rfl
@[simp] theorem State.assertReset_sk (s : State) : (s.assertReset).sk = State.reset.sk := rfl
@[simp] theorem State.assertReset_rs (s : State) : (s.assertReset).rs = State.reset.rs := rfl
@[simp] theorem State.assertReset_params (s : State) : (s.assertReset).params = s.params := rfl
@[simp] theorem State.assertReset_resetLine (s : State) : (s.assertReset).resetLine = true := rfl
@[simp] theorem State.assertReset_agenda (s : State) : (s.assertReset).agenda = s.agenda := rfl
@[simp] theorem State.assertReset_rdata (s : State) : (s.assertReset).rdata = s.rdata := rfl
@[simp] theorem State.assertReset_draws (s : State) : (s.assertReset).draws = s.draws := rfl

@[simp] theorem State.succeeded_cmd (s : State) : (s.succeeded).cmd = s.cmd := rfl
@[simp] theorem State.succeeded_pend (s : State) : (s.succeeded).pend = { valid := false, word := s.pend.word } := rfl
@[simp] theorem State.succeeded_status (s : State) : (s.succeeded).status = { s.status with done := true, err := false, errcode := 0 } := rfl
@[simp] theorem State.succeeded_irqen (s : State) : (s.succeeded).irqen = s.irqen := rfl
@[simp] theorem State.succeeded_keylen (s : State) : (s.succeeded).keylen = s.keylen := rfl
@[simp] theorem State.succeeded_ivlen (s : State) : (s.succeeded).ivlen = s.ivlen := rfl
@[simp] theorem State.succeeded_result (s : State) : (s.succeeded).result = s.result := rfl
@[simp] theorem State.succeeded_ctr (s : State) : (s.succeeded).ctr = s.ctr := rfl
@[simp] theorem State.succeeded_desl (s : State) : (s.succeeded).desl = s.desl := rfl
@[simp] theorem State.succeeded_desr (s : State) : (s.succeeded).desr = s.desr := rfl
@[simp] theorem State.succeeded_key (s : State) : (s.succeeded).key = s.key := rfl
@[simp] theorem State.succeeded_blk (s : State) : (s.succeeded).blk = s.blk := rfl
@[simp] theorem State.succeeded_nonce (s : State) : (s.succeeded).nonce = s.nonce := rfl
@[simp] theorem State.succeeded_rc4I (s : State) : (s.succeeded).rc4I = s.rc4I := rfl
@[simp] theorem State.succeeded_rc4J (s : State) : (s.succeeded).rc4J = s.rc4J := rfl
@[simp] theorem State.succeeded_x (s : State) : (s.succeeded).x = s.x := rfl
@[simp] theorem State.succeeded_xi (s : State) : (s.succeeded).xi = s.xi := rfl
@[simp] theorem State.succeeded_w (s : State) : (s.succeeded).w = s.w := rfl
@[simp] theorem State.succeeded_dw (s : State) : (s.succeeded).dw = s.dw := rfl
@[simp] theorem State.succeeded_sk (s : State) : (s.succeeded).sk = s.sk := rfl
@[simp] theorem State.succeeded_rs (s : State) : (s.succeeded).rs = s.rs := rfl
@[simp] theorem State.succeeded_params (s : State) : (s.succeeded).params = s.params := rfl
@[simp] theorem State.succeeded_resetLine (s : State) : (s.succeeded).resetLine = s.resetLine := rfl
@[simp] theorem State.succeeded_agenda (s : State) : (s.succeeded).agenda = s.agenda := rfl
@[simp] theorem State.succeeded_rdata (s : State) : (s.succeeded).rdata = s.rdata := rfl
@[simp] theorem State.succeeded_draws (s : State) : (s.succeeded).draws = s.draws := rfl

@[simp] theorem State.failedWith_cmd (s : State) (code : BitVec 4) : (s.failedWith code).cmd = s.cmd := rfl
@[simp] theorem State.failedWith_pend (s : State) (code : BitVec 4) : (s.failedWith code).pend = { valid := false, word := s.pend.word } := rfl
@[simp] theorem State.failedWith_status (s : State) (code : BitVec 4) : (s.failedWith code).status = { s.status with done := true, err := true, errcode := code } := rfl
@[simp] theorem State.failedWith_irqen (s : State) (code : BitVec 4) : (s.failedWith code).irqen = s.irqen := rfl
@[simp] theorem State.failedWith_keylen (s : State) (code : BitVec 4) : (s.failedWith code).keylen = s.keylen := rfl
@[simp] theorem State.failedWith_ivlen (s : State) (code : BitVec 4) : (s.failedWith code).ivlen = s.ivlen := rfl
@[simp] theorem State.failedWith_result (s : State) (code : BitVec 4) : (s.failedWith code).result = s.result := rfl
@[simp] theorem State.failedWith_ctr (s : State) (code : BitVec 4) : (s.failedWith code).ctr = s.ctr := rfl
@[simp] theorem State.failedWith_desl (s : State) (code : BitVec 4) : (s.failedWith code).desl = s.desl := rfl
@[simp] theorem State.failedWith_desr (s : State) (code : BitVec 4) : (s.failedWith code).desr = s.desr := rfl
@[simp] theorem State.failedWith_key (s : State) (code : BitVec 4) : (s.failedWith code).key = s.key := rfl
@[simp] theorem State.failedWith_blk (s : State) (code : BitVec 4) : (s.failedWith code).blk = s.blk := rfl
@[simp] theorem State.failedWith_nonce (s : State) (code : BitVec 4) : (s.failedWith code).nonce = s.nonce := rfl
@[simp] theorem State.failedWith_rc4I (s : State) (code : BitVec 4) : (s.failedWith code).rc4I = s.rc4I := rfl
@[simp] theorem State.failedWith_rc4J (s : State) (code : BitVec 4) : (s.failedWith code).rc4J = s.rc4J := rfl
@[simp] theorem State.failedWith_x (s : State) (code : BitVec 4) : (s.failedWith code).x = s.x := rfl
@[simp] theorem State.failedWith_xi (s : State) (code : BitVec 4) : (s.failedWith code).xi = s.xi := rfl
@[simp] theorem State.failedWith_w (s : State) (code : BitVec 4) : (s.failedWith code).w = s.w := rfl
@[simp] theorem State.failedWith_dw (s : State) (code : BitVec 4) : (s.failedWith code).dw = s.dw := rfl
@[simp] theorem State.failedWith_sk (s : State) (code : BitVec 4) : (s.failedWith code).sk = s.sk := rfl
@[simp] theorem State.failedWith_rs (s : State) (code : BitVec 4) : (s.failedWith code).rs = s.rs := rfl
@[simp] theorem State.failedWith_params (s : State) (code : BitVec 4) : (s.failedWith code).params = s.params := rfl
@[simp] theorem State.failedWith_resetLine (s : State) (code : BitVec 4) : (s.failedWith code).resetLine = s.resetLine := rfl
@[simp] theorem State.failedWith_agenda (s : State) (code : BitVec 4) : (s.failedWith code).agenda = s.agenda := rfl
@[simp] theorem State.failedWith_rdata (s : State) (code : BitVec 4) : (s.failedWith code).rdata = s.rdata := rfl
@[simp] theorem State.failedWith_draws (s : State) (code : BitVec 4) : (s.failedWith code).draws = s.draws := rfl

@[simp] theorem State.raise_eq_complete (s : State) (e : CmdError) : s.raise e = s.complete e.code := rfl

@[simp] theorem Status.completed_done (st : Status) (c : BitVec 4) : (st.completed c).done = true := rfl
@[simp] theorem Status.completed_err (st : Status) (c : BitVec 4) : (st.completed c).err = (c != 0) := rfl
@[simp] theorem Status.completed_errcode (st : Status) (c : BitVec 4) : (st.completed c).errcode = c := rfl
@[simp] theorem Status.completed_ovr (st : Status) (c : BitVec 4) : (st.completed c).ovr = st.ovr := rfl
@[simp] theorem Status.completed_aesRkv (st : Status) (c : BitVec 4) : (st.completed c).aesRkv = st.aesRkv := rfl
@[simp] theorem Status.completed_desSkv (st : Status) (c : BitVec 4) : (st.completed c).desSkv = st.desSkv := rfl
@[simp] theorem Status.completed_rc4Rdy (st : Status) (c : BitVec 4) : (st.completed c).rc4Rdy = st.rc4Rdy := rfl
@[simp] theorem Status.completed_ccInit (st : Status) (c : BitVec 4) : (st.completed c).ccInit = st.ccInit := rfl
@[simp] theorem Status.completed_aesNr (st : Status) (c : BitVec 4) : (st.completed c).aesNr = st.aesNr := rfl

/-- Completion with code 0 is R293's success, written out. -/
theorem State.complete_zero (s : State) : s.complete 0 = s.succeeded := rfl

/-- A raise is R293's failure with the error's code, written out. -/
theorem State.raise_eq_failedWith (s : State) (e : CmdError) : s.raise e = s.failedWith e.code := by
  cases e <;> rfl

end Sys2Proof.Machine
end

