-- ==== Sys2Proof/Laws/Ops.lean ====
section
/-! SUPPORT. One lemma for each shared operation that says everything it can do: the checks of a command, completion, host accesses, a step. -/

namespace Sys2Proof.Machine

/-- A check that holds lets the command go on. -/
@[simp] theorem State.require_true (s : State) (e : CmdError) (k : Result) : s.require true e k = k := rfl

/-- A check that fails ends the command with its error (R294). -/
@[simp] theorem State.require_false (s : State) (e : CmdError) (k : Result) :
    s.require false e k = .next (s.failedWith e.code) := by
  cases e <;> rfl

/-- Everything a check can do. -/
theorem State.require_cases (s : State) (ok : Bool) (e : CmdError) (k : Result) :
    (ok = true ∧ s.require ok e k = k) ∨ (ok = false ∧ s.require ok e k = .next (s.failedWith e.code)) := by
  cases ok <;> simp

/-- A command that succeeded answers the next state of R293. -/
@[simp] theorem State.finish_eq (s : State) : s.finish = .next s.succeeded := rfl

/-- A host access answers a next state exactly when it is legal (R71, R72), and then it is the read's or the write's. -/
theorem State.hostAccess_of_legal (s : State) (a : Access) (h : a.legal) :
    s.hostAccess a = (match a.op with
      | .read => Host.Outcome.next (s.hostRead a.off)
      | .write v => Host.Outcome.next (s.hostWrite a.off v)) := by
  obtain ⟨h1, h2, h3, h4, h5⟩ := h
  have h5' : ¬ 0x1000 ≤ a.off := Nat.not_le.mpr h5
  cases hop : a.op <;> simp [State.hostAccess, h1, h2, h3, h4, h5', hop]

/-- A host access that is not legal is refused (R72). -/
theorem State.hostAccess_of_not_legal (s : State) (a : Access) (h : ¬ a.legal) : ∃ r, s.hostAccess a = .refused r := by
  unfold State.hostAccess
  split
  · exact ⟨_, rfl⟩
  split
  · exact ⟨_, rfl⟩
  split
  · exact ⟨_, rfl⟩
  split
  · exact ⟨_, rfl⟩
  split
  · exact ⟨_, rfl⟩
  · refine absurd ⟨?_, ?_, ?_, ?_, ?_⟩ h <;> simp_all
    cases hm : a.master <;> simp_all

/-- Everything a host access that answers a next state can have done. -/
theorem State.hostAccess_cases {s t : State} {a : Access} (h : s.hostAccess a = .next t) :
    a.legal ∧ ((a.op = .read ∧ t = s.hostRead a.off) ∨ ∃ v, a.op = .write v ∧ t = s.hostWrite a.off v) := by
  by_cases hl : a.legal
  · refine ⟨hl, ?_⟩
    rw [State.hostAccess_of_legal s a hl] at h
    cases hop : a.op with
    | read => rw [hop] at h; exact .inl ⟨rfl, (Host.Outcome.next.inj h).symm⟩
    | write v => rw [hop] at h; exact .inr ⟨v, rfl, (Host.Outcome.next.inj h).symm⟩
  · obtain ⟨r, hr⟩ := State.hostAccess_of_not_legal s a hl
    rw [hr] at h; cases h

/-- A host read changes `rdata` and, for a free draw, the draw counter; nothing else (R73). -/
theorem State.hostRead_frame (s : State) (off : Nat) :
    s.hostRead off = { s with rdata := (s.hostRead off).rdata, draws := (s.hostRead off).draws } := by
  unfold State.hostRead
  split
  · rfl
  · split <;> rfl

/-- Everything a host write can do (R74, R28, R330). -/
theorem State.hostWrite_cases (s : State) (off : Nat) (v : Word) :
    (s.resetLine = true ∧ s.hostWrite off v = s) ∨
    (s.resetLine = false ∧ s.pend.valid = true ∧ (regAt off).writableWhileBusy = false ∧
      s.hostWrite off v = { s with status := s.status.overrun }) ∨
    (s.resetLine = false ∧ (s.pend.valid = false ∨ (regAt off).writableWhileBusy = true) ∧
      s.hostWrite off v = s.writeReg (regAt off) v) := by
  unfold State.hostWrite State.busy
  cases s.resetLine <;> cases s.pend.valid <;> cases (regAt off).writableWhileBusy <;> simp

/-- Everything the engine's turn can do (R121, R122). -/
theorem State.engineTurn_cases (s : State) :
    (s.pend.valid = false ∧ s.engineTurn = .next s) ∨
    (s.pend.valid = true ∧ ∃ i, decode s.pend.word = .ok i ∧ s.engineTurn = exec i s.takePending) ∨
    (s.pend.valid = true ∧ ∃ e, decode s.pend.word = .error e ∧
      s.engineTurn = .next (s.takePending.failedWith 5)) := by
  unfold State.engineTurn State.engineStep
  cases hv : s.pend.valid with
  | false => exact .inl ⟨rfl, rfl⟩
  | true =>
    cases hd : decode s.pend.word with
    | ok i => exact .inr (.inl ⟨rfl, i, rfl, rfl⟩)
    | error e => exact .inr (.inr ⟨rfl, e, rfl, rfl⟩)

/-- Everything a step can be: the engine's turn on an empty agenda, or the first event of the agenda. -/
theorem step_cases (s : State) :
    (s.agenda = [] ∧ step s = s.engineTurn) ∨
    ∃ e rest, s.agenda = e :: rest ∧ step s = State.perform { s with agenda := rest } e := by
  unfold step State.advance
  cases h : s.agenda with
  | nil => exact .inl ⟨rfl, rfl⟩
  | cons e rest => exact .inr ⟨e, rest, rfl, rfl⟩

/-- A command placed on any state is issued, and the next step performs it. -/
theorem step_placeCommand (s : State) (v : Word) :
    step (s.placeCommand v) = (s.issue v).engineTurn := by
  unfold State.placeCommand
  cases h : s.agenda with
  | nil => simp [step, State.advance, h]
  | cons e rest =>
    show State.engineTurn { s.issue v with agenda := e :: rest } = _
    congr 1
    simp [State.issue, h]

end Sys2Proof.Machine
end

