-- ==== Sys2Proof/Laws/PerInstr.lean ====
section
/-! SUPPORT. The per-instruction family EncodeLegal: the word of every command is a legal word (R103 to R106) with the opcode and the operands R103
gives it. -/

namespace Sys2Proof.Laws.EncodeLegal

/-- The fields of a command's word make a legal command. -/
def Statement (i : Instr) : Prop := (Fields.ofWord (encode i)).wf = true

/-- R101: the four fields of a command word. -/
theorem fields_commandWord (op n m : Byte) :
    Fields.ofWord (commandWord op n m) = { op := op, n := n, m := m, rsv := 0 } := by
  have h0 : (commandWord op n m).extractLsb' 0 8 = op := by
    apply BitVec.eq_of_getLsbD_eq
    intro i hi
    interval_cases i <;> simp [commandWord]
  have h1 : (commandWord op n m).extractLsb' 8 8 = n := by
    apply BitVec.eq_of_getLsbD_eq
    intro i hi
    interval_cases i <;> simp [commandWord]
  have h2 : (commandWord op n m).extractLsb' 16 8 = m := by
    apply BitVec.eq_of_getLsbD_eq
    intro i hi
    interval_cases i <;> simp [commandWord]
  have h3 : (commandWord op n m).extractLsb' 24 8 = 0 := by
    apply BitVec.eq_of_getLsbD_eq
    intro i hi
    interval_cases i <;> simp [commandWord]
  simp [Fields.ofWord, h0, h1, h2, h3]

theorem nop : Statement .nop := by
  simp [Statement, encode, fields_commandWord, Fields.wf, Fields.opDefined, Fields.usesN, Fields.usesM]

theorem clear : Statement .clear := by
  simp [Statement, encode, fields_commandWord, Fields.wf, Fields.opDefined, Fields.usesN, Fields.usesM]

theorem aesKeyexp : Statement .aesKeyexp := by
  simp [Statement, encode, fields_commandWord, Fields.wf, Fields.opDefined, Fields.usesN, Fields.usesM]

theorem aesEncblk : Statement .aesEncblk := by
  simp [Statement, encode, fields_commandWord, Fields.wf, Fields.opDefined, Fields.usesN, Fields.usesM]

theorem aesDecblk : Statement .aesDecblk := by
  simp [Statement, encode, fields_commandWord, Fields.wf, Fields.opDefined, Fields.usesN, Fields.usesM]

theorem aesAddrk (n : Byte) : Statement (.aesAddrk n) := by
  simp [Statement, encode, fields_commandWord, Fields.wf, Fields.opDefined, Fields.usesN, Fields.usesM]

theorem aesSubbytes : Statement .aesSubbytes := by
  simp [Statement, encode, fields_commandWord, Fields.wf, Fields.opDefined, Fields.usesN, Fields.usesM]

theorem aesShiftrows : Statement .aesShiftrows := by
  simp [Statement, encode, fields_commandWord, Fields.wf, Fields.opDefined, Fields.usesN, Fields.usesM]

theorem aesMixcols : Statement .aesMixcols := by
  simp [Statement, encode, fields_commandWord, Fields.wf, Fields.opDefined, Fields.usesN, Fields.usesM]

theorem aesInvsubbytes : Statement .aesInvsubbytes := by
  simp [Statement, encode, fields_commandWord, Fields.wf, Fields.opDefined, Fields.usesN, Fields.usesM]

theorem aesInvshiftrows : Statement .aesInvshiftrows := by
  simp [Statement, encode, fields_commandWord, Fields.wf, Fields.opDefined, Fields.usesN, Fields.usesM]

theorem aesInvmixcols : Statement .aesInvmixcols := by
  simp [Statement, encode, fields_commandWord, Fields.wf, Fields.opDefined, Fields.usesN, Fields.usesM]

theorem aesAdddrk (n : Byte) : Statement (.aesAdddrk n) := by
  simp [Statement, encode, fields_commandWord, Fields.wf, Fields.opDefined, Fields.usesN, Fields.usesM]

theorem aesEncrnd (n : Byte) : Statement (.aesEncrnd n) := by
  simp [Statement, encode, fields_commandWord, Fields.wf, Fields.opDefined, Fields.usesN, Fields.usesM]

theorem aesEnclast : Statement .aesEnclast := by
  simp [Statement, encode, fields_commandWord, Fields.wf, Fields.opDefined, Fields.usesN, Fields.usesM]

theorem aesDecrnd (n : Byte) : Statement (.aesDecrnd n) := by
  simp [Statement, encode, fields_commandWord, Fields.wf, Fields.opDefined, Fields.usesN, Fields.usesM]

theorem aesDeclast : Statement .aesDeclast := by
  simp [Statement, encode, fields_commandWord, Fields.wf, Fields.opDefined, Fields.usesN, Fields.usesM]

theorem gfMul (n m : Byte) : Statement (.gfMul n m) := by
  simp [Statement, encode, fields_commandWord, Fields.wf, Fields.opDefined, Fields.usesN, Fields.usesM]

theorem gfXtime (n : Byte) : Statement (.gfXtime n) := by
  simp [Statement, encode, fields_commandWord, Fields.wf, Fields.opDefined, Fields.usesN, Fields.usesM]

theorem aesSbox (n : Byte) : Statement (.aesSbox n) := by
  simp [Statement, encode, fields_commandWord, Fields.wf, Fields.opDefined, Fields.usesN, Fields.usesM]

theorem aesInvsbox (n : Byte) : Statement (.aesInvsbox n) := by
  simp [Statement, encode, fields_commandWord, Fields.wf, Fields.opDefined, Fields.usesN, Fields.usesM]

theorem desKeysched : Statement .desKeysched := by
  simp [Statement, encode, fields_commandWord, Fields.wf, Fields.opDefined, Fields.usesN, Fields.usesM]

theorem desEncblk : Statement .desEncblk := by
  simp [Statement, encode, fields_commandWord, Fields.wf, Fields.opDefined, Fields.usesN, Fields.usesM]

theorem desDecblk : Statement .desDecblk := by
  simp [Statement, encode, fields_commandWord, Fields.wf, Fields.opDefined, Fields.usesN, Fields.usesM]

theorem desIp : Statement .desIp := by
  simp [Statement, encode, fields_commandWord, Fields.wf, Fields.opDefined, Fields.usesN, Fields.usesM]

theorem desRound (n : Byte) : Statement (.desRound n) := by
  simp [Statement, encode, fields_commandWord, Fields.wf, Fields.opDefined, Fields.usesN, Fields.usesM]

theorem desFp : Statement .desFp := by
  simp [Statement, encode, fields_commandWord, Fields.wf, Fields.opDefined, Fields.usesN, Fields.usesM]

theorem desFeistel (n : Byte) : Statement (.desFeistel n) := by
  simp [Statement, encode, fields_commandWord, Fields.wf, Fields.opDefined, Fields.usesN, Fields.usesM]

theorem rc4Ksa : Statement .rc4Ksa := by
  simp [Statement, encode, fields_commandWord, Fields.wf, Fields.opDefined, Fields.usesN, Fields.usesM]

theorem rc4Prga (n : Byte) : Statement (.rc4Prga n) := by
  simp [Statement, encode, fields_commandWord, Fields.wf, Fields.opDefined, Fields.usesN, Fields.usesM]

theorem ccInit : Statement .ccInit := by
  simp [Statement, encode, fields_commandWord, Fields.wf, Fields.opDefined, Fields.usesN, Fields.usesM]

theorem ccQr (n : Byte) : Statement (.ccQr n) := by
  simp [Statement, encode, fields_commandWord, Fields.wf, Fields.opDefined, Fields.usesN, Fields.usesM]

theorem ccDround : Statement .ccDround := by
  simp [Statement, encode, fields_commandWord, Fields.wf, Fields.opDefined, Fields.usesN, Fields.usesM]

theorem ccBlock : Statement .ccBlock := by
  simp [Statement, encode, fields_commandWord, Fields.wf, Fields.opDefined, Fields.usesN, Fields.usesM]

theorem ccFeedfwd : Statement .ccFeedfwd := by
  simp [Statement, encode, fields_commandWord, Fields.wf, Fields.opDefined, Fields.usesN, Fields.usesM]

end Sys2Proof.Laws.EncodeLegal
end

