-- ==== Sys2Proof/Laws/Vectors.lean ====
section
/-! SUPPORT. Reading what the table and byte-packing operations built: tabulate, packBytes and laneByte, the cells of an AES state, the DES block. -/

namespace Sys2Proof.Machine

@[simp] theorem getElem_tabulate {α : Type} (n : Nat) (f : Nat → α) (i : Nat) (h : i < n) : (tabulate n f)[i] = f i := by
  simp [tabulate]

@[simp] theorem getD_tabulate {α : Type} (n : Nat) (f : Nat → α) (i : Nat) (d : α) (h : i < n) :
    (tabulate n f).getD i d = f i := by
  simp [Vector.getD, tabulate, h]

@[simp] theorem laneByte_packBytes_zero (b0 b1 b2 b3 : Byte) : laneByte (packBytes b0 b1 b2 b3) 0 = b0 := by
  apply BitVec.eq_of_getLsbD_eq
  intro i hi
  interval_cases i <;> simp [laneByte, packBytes]

@[simp] theorem laneByte_packBytes_one (b0 b1 b2 b3 : Byte) : laneByte (packBytes b0 b1 b2 b3) 1 = b1 := by
  apply BitVec.eq_of_getLsbD_eq
  intro i hi
  interval_cases i <;> simp [laneByte, packBytes]

@[simp] theorem laneByte_packBytes_two (b0 b1 b2 b3 : Byte) : laneByte (packBytes b0 b1 b2 b3) 2 = b2 := by
  apply BitVec.eq_of_getLsbD_eq
  intro i hi
  interval_cases i <;> simp [laneByte, packBytes]

@[simp] theorem laneByte_packBytes_three (b0 b1 b2 b3 : Byte) : laneByte (packBytes b0 b1 b2 b3) 3 = b3 := by
  apply BitVec.eq_of_getLsbD_eq
  intro i hi
  interval_cases i <;> simp [laneByte, packBytes]

/-- R14: packing a register's four bytes again gives the register. -/
@[simp] theorem packBytes_laneByte (w : Word) :
    packBytes (laneByte w 0) (laneByte w 1) (laneByte w 2) (laneByte w 3) = w := by
  apply BitVec.eq_of_getLsbD_eq
  intro i hi
  interval_cases i <;> simp [laneByte, packBytes]

/-- R130: the cells of a state built from cells. -/
@[simp] theorem cell_ofCells (f : Fin 4 → Fin 4 → Byte) (r c : Fin 4) : cell (ofCells f) r c = f r c := by
  fin_cases r <;> fin_cases c <;> simp [cell, ofCells]

/-- R130: a state is the state built from its own cells. -/
theorem ofCells_cell (s : Block) : ofCells (cell s) = s := by
  apply Vector.ext
  intro i hi
  interval_cases i <;> simp [cell, ofCells]

/-- R37: BLK0:BLK1 reads back what was written to it. -/
@[simp] theorem desBlock_withDesBlock (blk : Vector Word 4) (v : BitVec 64) : desBlock (withDesBlock blk v) = v := by
  apply BitVec.eq_of_getLsbD_eq
  intro i hi
  simp only [desBlock, withDesBlock, BitVec.getLsbD_append]
  by_cases h : i < 32
  · simp [h]
  · simp [h, show 32 + (i - 32) = i by omega, show i - 32 < 32 by omega]

/-- R37: a DES command leaves BLK2 and BLK3 as they were. -/
@[simp] theorem withDesBlock_two (blk : Vector Word 4) (v : BitVec 64) : (withDesBlock blk v)[2] = blk[2] := rfl

@[simp] theorem withDesBlock_three (blk : Vector Word 4) (v : BitVec 64) : (withDesBlock blk v)[3] = blk[3] := rfl

end Sys2Proof.Machine
end

