-- ==== Sys2Proof/Tests/Slice0.lean ====
section
/-! SUPPORT. Small tests with expected values from the spec (95_test_vectors.md and the examples of the commands' rules), the smoke test of the
well-formedness checks, and a witness for the hypotheses of every obligation that has some. -/

namespace Sys2Proof.Tests

open Sys2Proof.Machine

/-- What `f` reads of the next state; none where there is no next state. -/
def after {α : Type} (r : Result) (f : State → α) : Option α :=
  match r with
  | .next t => some (f t)
  | .fault _ => none
  | .refused _ => none

/-- The refusal of a step, if it refuses. -/
def refusal (r : Result) : Option Refusal :=
  match r with
  | .next _ => none
  | .fault _ => none
  | .refused q => some q

/-- The reset state with a block in BLK. -/
def withBlk (b : Block) : State := { State.reset with blk := b }

/-- A schedule that holds the words of a list, and 0 above. -/
def schedOf (l : List Word) : Vector Word 60 := tabulate 60 fun i => l.getD i 0

/-- STATUS with an AES-128 schedule loaded. -/
def aes128Status : Status := { Status.reset with aesRkv := true, aesNr := .ten }

/-- STATUS with a DES schedule loaded. -/
def desStatus : Status := { Status.reset with desSkv := true }

/-- STATUS with RC4 keyed. -/
def rc4Status : Status := { Status.reset with rc4Rdy := true }

/-- FIPS-197 Appendix B key, KEYLEN 16 (95 A5). -/
def keyB : State :=
  { State.reset with key := #v[0x2b7e1516, 0x28aed2a6, 0xabf71588, 0x09cf4f3c, 0, 0, 0, 0], keylen := 16 }

/-- The first two round keys of the Appendix B schedule (95 A5). -/
def schedB : Vector Word 60 :=
  schedOf [0x2b7e1516, 0x28aed2a6, 0xabf71588, 0x09cf4f3c, 0xa0fafe17, 0x88542cb1, 0x23a33939, 0x2a6c7605]

/-- Appendix B schedule words loaded, with a block. -/
def aesB (b : Block) : State := { State.reset with w := schedB, status := aes128Status, blk := b }

/-- Key 000102...0f loaded in full, with a block (95 A1). -/
def aesC (b : Block) : State :=
  let w := expandKey { nk := 4, nr := .ten } #v[0x00010203, 0x04050607, 0x08090a0b, 0x0c0d0e0f, 0, 0, 0, 0]
  { State.reset with w := w, dw := decSchedule 10 w, status := aes128Status, blk := b }

/-- DES key 133457799BBCDFF1 scheduled (95 D1), with a block and halves. -/
def desD1 (b0 b1 l r : Word) : State :=
  { State.reset with
    sk := desSubkeys 0x133457799BBCDFF1, status := desStatus, blk := #v[b0, b1, 0x11223344, 0xaabbccdd], desl := l, desr := r }

/-- The RC4 identity permutation with RC4_RDY set. -/
def rc4Identity : State := { State.reset with rs := tabulate 256 (BitVec.ofNat 8), status := rc4Status }

/-- The set-up of 95 section 6 (RFC 7539 2.3.2), with parameters. -/
def ccSetup (p : Params) : State :=
  { State.reset with
    key := #v[0x00010203, 0x04050607, 0x08090a0b, 0x0c0d0e0f, 0x10111213, 0x14151617, 0x18191a1b, 0x1c1d1e1f]
    nonce := #v[0x00000009, 0x0000004a, 0x00000000], ctr := 1, keylen := 32, ivlen := 12, params := p }

/-- A state with the word `v` pending. -/
def pending (v : Word) (agenda : List Event) : State :=
  { State.reset with cmd := v, pend := { valid := true, word := v }, agenda := agenda }

section WellFormedSmoke

/-- R105: RSV not 0 is refused. -/
theorem test_fields_rsv : (Fields.ofWord 0xFF000020).wf = false := by decide
/-- R104: a reserved OP is refused. -/
theorem test_fields_reserved : (Fields.ofWord 0x0000001F).wf = false := by decide
/-- R106: an unused N is refused. -/
theorem test_fields_unused_n : (Fields.ofWord 0x00000114).wf = false := by decide
/-- R106: an unused M is refused. -/
theorem test_fields_unused_m : (Fields.ofWord 0x00010021).wf = false := by decide
/-- R103's example is legal. -/
theorem test_fields_legal : (Fields.ofWord 0x00835720).wf = true := by decide
/-- R109: an operand outside 0 to 255 is refused. -/
theorem test_line_range : ({ mnemonic := "GF.XTIME", operands := [256] } : SourceLine).wf = false := by decide
/-- R109: a missing operand is refused. -/
theorem test_line_missing : ({ mnemonic := "GF.MUL", operands := [3] } : SourceLine).wf = false := by decide
/-- R109: an operand too many is refused. -/
theorem test_line_extra : ({ mnemonic := "NOP", operands := [0] } : SourceLine).wf = false := by decide
/-- R109: an unknown mnemonic is refused. -/
theorem test_line_unknown : ({ mnemonic := "AES.FOO", operands := [] } : SourceLine).wf = false := by decide
/-- R109's own example AES.ENCRND 0 is accepted by the assembler. -/
theorem test_line_accepted : assemble { mnemonic := "AES.ENCRND", operands := [0] } = some (.aesEncrnd 0) := by decide

end WellFormedSmoke

section DecodeWords

-- Each word is M, N, OP written out from R101 and R103.
theorem test_decode_control : decode (0x00#8 ++ 0x00#8 ++ 0x00#8 ++ 0x01#8) = .ok .clear := by decide
theorem test_decode_nop : decode (0x00#8 ++ 0x00#8 ++ 0x00#8 ++ 0x00#8) = .ok .nop := by decide
theorem test_decode_aes : decode (0x00#8 ++ 0x00#8 ++ 0x05#8 ++ 0x1D#8) = .ok (.aesDecrnd 5) := by decide
theorem test_decode_gf : decode (0x00#8 ++ 0x83#8 ++ 0x57#8 ++ 0x20#8) = .ok (.gfMul 0x57 0x83) := by decide
theorem test_decode_des : decode (0x00#8 ++ 0x00#8 ++ 0x10#8 ++ 0x36#8) = .ok (.desFeistel 16) := by decide
theorem test_decode_rc4 : decode (0x00#8 ++ 0x00#8 ++ 0x04#8 ++ 0x51#8) = .ok (.rc4Prga 4) := by decide
theorem test_decode_cc : decode (0x00#8 ++ 0x00#8 ++ 0x06#8 ++ 0x71#8) = .ok (.ccQr 6) := by decide

/-- The words of the commands without operands, by R103's OP column. -/
theorem test_decode_plain_aes :
    [0x10, 0x11, 0x12, 0x14, 0x15, 0x16, 0x17, 0x18, 0x19, 0x1C, 0x1E].map (decodeTableWord 32) =
      [Instr.aesKeyexp, .aesEncblk, .aesDecblk, .aesSubbytes, .aesShiftrows, .aesMixcols, .aesInvsubbytes, .aesInvshiftrows,
        .aesInvmixcols, .aesEnclast, .aesDeclast].map some := by decide

theorem test_decode_plain_others :
    [0x30, 0x31, 0x32, 0x33, 0x35, 0x50, 0x70, 0x72, 0x73, 0x74].map (decodeTableWord 32) =
      [Instr.desKeysched, .desEncblk, .desDecblk, .desIp, .desFp, .rc4Ksa, .ccInit, .ccDround, .ccBlock, .ccFeedfwd].map some := by
  decide

theorem test_decode_operand_n :
    [0xFF13, 0xFF1A, 0xFF1B, 0xFF21, 0xFF22, 0xFF23, 0xFF34].map (decodeTableWord 32) =
      [Instr.aesAddrk 255, .aesAdddrk 255, .aesEncrnd 255, .gfXtime 255, .aesSbox 255, .aesInvsbox 255, .desRound 255].map some := by
  decide

/-- The illegal words of 95 P-6. -/
theorem test_decode_illegal :
    [0x00000002, 0x0000001F, 0x00000052, 0x00000075, 0x00000100, 0x00000114, 0x00000170, 0x00010013, 0x00010021, 0x01000000,
      0xFF000020, 0xFFFFFFFF].map (decodeTableWord 32) = List.replicate 12 none := by decide

end DecodeWords

section Effects

/-- R123: from reset STATUS = 0x00000002. -/
theorem test_nop : after (step (State.reset.withFetchWord 32 0x00)) State.statusWord = some 0x00000002 := by decide

/-- R124's example: IRQEN = 7 and loaded flags; STATUS = 2, IRQEN = 7, CMD = 1; PEND as after reset (R333). -/
theorem test_clear :
    after (step (State.withFetchWord { aesB #v[1, 2, 3, 4] with irqen := 7 } 32 0x01))
      (fun t => (t.statusWord, t.irqen, t.cmd, t.w[4], t.pend)) =
      some (0x00000002, 7, 0x00000001, 0, State.reset.pend) := by decide

/-- R151's example (FIPS-197 Appendix A.1). -/
theorem test_keyexp :
    after (exec .aesKeyexp keyB) (fun t => (t.statusWord, t.w[4], t.w[43], t.w[44], t.dw[4])) =
      some (0x0000A102, 0xa0fafe17, 0xb6630ca6, 0, 0x2b3708a7) := by decide +kernel

/-- R151, 95 E1: KEYLEN 20 fails. -/
theorem test_keyexp_bad_length : after (exec .aesKeyexp { keyB with keylen := 20 }) State.statusWord = some 0x00000016 := by decide

/-- R152's example. -/
theorem test_encblk :
    after (exec .aesEncblk (aesC #v[0x00112233, 0x44556677, 0x8899aabb, 0xccddeeff])) State.blk =
      some #v[0x69c4e0d8, 0x6a7b0430, 0xd8cdb780, 0x70b4c55a] := by decide +kernel

/-- 95 E2. -/
theorem test_encblk_not_ready : after (exec .aesEncblk State.reset) State.statusWord = some 0x00000036 := by decide

/-- R153's example. -/
theorem test_decblk :
    after (exec .aesDecblk (aesC #v[0x69c4e0d8, 0x6a7b0430, 0xd8cdb780, 0x70b4c55a])) State.blk =
      some #v[0x00112233, 0x44556677, 0x8899aabb, 0xccddeeff] := by decide +kernel

/-- R154's example. -/
theorem test_addrk :
    after (exec (.aesAddrk 0) (aesB #v[0x3243f6a8, 0x885a308d, 0x313198a2, 0xe0370734])) State.blk =
      some #v[0x193de3be, 0xa0f4e22b, 0x9ac68d2a, 0xe9f84808] := by decide

/-- 95 E4. -/
theorem test_addrk_range : after (exec (.aesAddrk 11) (aesB #v[0, 0, 0, 0])) State.statusWord = some 0x0000A146 := by decide

/-- R155's example. -/
theorem test_subbytes :
    after (exec .aesSubbytes (withBlk #v[0x193de3be, 0xa0f4e22b, 0x9ac68d2a, 0xe9f84808])) State.blk =
      some #v[0xd42711ae, 0xe0bf98f1, 0xb8b45de5, 0x1e415230] := by decide

/-- R156's example. -/
theorem test_shiftrows :
    after (exec .aesShiftrows (withBlk #v[0xd42711ae, 0xe0bf98f1, 0xb8b45de5, 0x1e415230])) State.blk =
      some #v[0xd4bf5d30, 0xe0b452ae, 0xb84111f1, 0x1e2798e5] := by decide

/-- R157's example. -/
theorem test_mixcols :
    after (exec .aesMixcols (withBlk #v[0xd4bf5d30, 0xe0b452ae, 0xb84111f1, 0x1e2798e5])) State.blk =
      some #v[0x046681e5, 0xe0cb199a, 0x48f8d37a, 0x2806264c] := by decide

/-- R158's example. -/
theorem test_invsubbytes :
    after (exec .aesInvsubbytes (withBlk #v[0x3925841d, 0x02dc09fb, 0xdc118597, 0x196a0b32])) State.blk =
      some #v[0x5bc24fde, 0x6a934063, 0x93e36785, 0x8e589ea1] := by decide

/-- R159's example. -/
theorem test_invshiftrows :
    after (exec .aesInvshiftrows (withBlk #v[0x3925841d, 0x02dc09fb, 0xdc118597, 0x196a0b32])) State.blk =
      some #v[0x396a85fb, 0x02250b97, 0xdcdc8432, 0x1911091d] := by decide

/-- R160's example. -/
theorem test_invmixcols :
    after (exec .aesInvmixcols (withBlk #v[0x3925841d, 0x02dc09fb, 0xdc118597, 0x196a0b32])) State.blk =
      some #v[0x025dae74, 0xdea68dd9, 0x5f71a352, 0x9bff1d33] := by decide

/-- R161's example. -/
theorem test_adddrk :
    after (exec (.aesAdddrk 10) (aesC #v[0x69c4e0d8, 0x6a7b0430, 0xd8cdb780, 0x70b4c55a])) State.blk =
      some #v[0x7ad5fda7, 0x89ef4e27, 0x2bca100b, 0x3d9ff59f] := by decide +kernel

/-- R162's example. -/
theorem test_encrnd :
    after (exec (.aesEncrnd 1) (aesB #v[0x193de3be, 0xa0f4e22b, 0x9ac68d2a, 0xe9f84808])) State.blk =
      some #v[0xa49c7ff2, 0x689f352b, 0x6b5bea43, 0x026a5049] := by decide

/-- 95 E6: n = Nr is no inner round. -/
theorem test_encrnd_range : after (exec (.aesEncrnd 10) (aesB #v[0, 0, 0, 0])) State.statusWord = some 0x0000A146 := by decide

/-- R163's example; the last round key is W[40..43] of 95 A5. -/
theorem test_enclast :
    after (exec .aesEnclast { aesB #v[0xeb40f21e, 0x592e3884, 0x8ba113e7, 0x1bc342d2] with
      w := schedOf (List.replicate 40 0 ++ [0xd014f9a8, 0xc9ee2589, 0xe13f0cc8, 0xb6630ca6]) }) State.blk =
      some #v[0x3925841d, 0x02dc09fb, 0xdc118597, 0x196a0b32] := by decide

/-- R164's example. -/
theorem test_decrnd :
    after (exec (.aesDecrnd 9) (aesC #v[0x7ad5fda7, 0x89ef4e27, 0x2bca100b, 0x3d9ff59f])) State.blk =
      some #v[0x54d990a1, 0x6ba09ab5, 0x96bbf40e, 0xa111702f] := by decide +kernel

/-- 95 E6: n = 0 is no inner round of DECRND (R164). -/
theorem test_decrnd_range : after (exec (.aesDecrnd 0) (aesB #v[0, 0, 0, 0])) State.statusWord = some 0x0000A146 := by decide

/-- R165's example: DW[0..3] is the key itself. -/
theorem test_declast :
    after (exec .aesDeclast { aesB #v[0x6353e08c, 0x0960e104, 0xcd70b751, 0xbacad0e7] with
      dw := schedOf [0x00010203, 0x04050607, 0x08090a0b, 0x0c0d0e0f] }) State.blk =
      some #v[0x00112233, 0x44556677, 0x8899aabb, 0xccddeeff] := by decide

/-- R166's example and its corner case gmul(0xFF, 0xFF). -/
theorem test_gfmul :
    after (exec (.gfMul 0x57 0x83) State.reset) State.result = some 0x000000C1 ∧
      after (exec (.gfMul 0xFF 0xFF) State.reset) State.result = some 0x00000013 := by decide

/-- R167: the reduction case. -/
theorem test_gfxtime : after (exec (.gfXtime 0x80) State.reset) State.result = some 0x0000001B := by decide

/-- R168's example and 95 G10. -/
theorem test_sbox :
    after (exec (.aesSbox 0x53) State.reset) State.result = some 0x000000ED ∧
      after (exec (.aesSbox 0xC5) State.reset) State.result = some 0x000000A6 := by decide

/-- R169's example and 95 G10. -/
theorem test_invsbox :
    after (exec (.aesInvsbox 0xED) State.reset) State.result = some 0x00000053 ∧
      after (exec (.aesInvsbox 0x7C) State.reset) State.result = some 0x00000001 := by decide

/-- R221's example. -/
theorem test_keysched :
    after (exec .desKeysched { State.reset with key := #v[0x13345779, 0x9BBCDFF1, 0, 0, 0, 0, 0, 0], keylen := 8 })
      (fun t => (t.statusWord, t.sk[0], t.sk[1], t.sk[15])) =
      some (0x00000202, 0x1B02EFFC7072, 0x79AED9DBC9E5, 0xCB3D8B0E17F5) := by decide +kernel

/-- R222's example; BLK2 and BLK3 untouched (95 D5). -/
theorem test_des_encblk :
    after (exec .desEncblk (desD1 0x01234567 0x89ABCDEF 0 0)) (fun t => (t.blk, t.desl, t.desr)) =
      some (#v[0x85E81354, 0x0F0AB405, 0x11223344, 0xaabbccdd], 0x43423234, 0x0A4CD995) := by decide +kernel

/-- R223's example. -/
theorem test_des_decblk :
    after (exec .desDecblk (desD1 0x85E81354 0x0F0AB405 0 0)) (fun t => (t.blk[0], t.blk[1], t.desl, t.desr)) =
      some (0x01234567, 0x89ABCDEF, 0xF0AAF0AA, 0xCC00CCFF) := by decide +kernel

/-- R224's example, and its corner case of block bit 1 (95 D5). -/
theorem test_des_ip :
    after (exec .desIp (withBlk #v[0x01234567, 0x89ABCDEF, 0, 0])) (fun t => (t.desl, t.desr)) = some (0xCC00CCFF, 0xF0AAF0AA) ∧
      after (exec .desIp (withBlk #v[0x80000000, 0, 0, 0])) (fun t => (t.desl, t.desr)) = some (0x00000000, 0x01000000) := by
  decide +kernel

/-- R225's example. -/
theorem test_des_round :
    after (exec (.desRound 1) (desD1 0 0 0xCC00CCFF 0xF0AAF0AA)) (fun t => (t.desl, t.desr)) = some (0xF0AAF0AA, 0xEF4A6544) := by
  decide +kernel

/-- 95 E14: DES.ROUND 0 and DES.FEISTEL 17 are out of range. -/
theorem test_des_round_range :
    after (exec (.desRound 0) { State.reset with status := desStatus }) State.statusWord = some 0x00000246 ∧
      after (exec (.desFeistel 17) { State.reset with status := desStatus }) State.statusWord = some 0x00000246 := by decide

/-- R226's example. -/
theorem test_des_fp :
    after (exec .desFp (desD1 0 0 0x43423234 0x0A4CD995)) (fun t => (t.blk[0], t.blk[1])) = some (0x85E81354, 0x0F0AB405) := by
  decide +kernel

/-- R227's example and the corner case of R225: f(0, 0) = 0xD8D8DBBC. -/
theorem test_des_feistel :
    after (exec (.desFeistel 1) (desD1 0 0 0xCC00CCFF 0xF0AAF0AA)) State.result = some 0x234AA9BB ∧
      after (exec (.desFeistel 5) { State.reset with status := desStatus }) State.result = some 0xD8D8DBBC := by decide +kernel

/-- R244: KEYLEN 5 is refused, and RS keeps its values (95 R6). -/
theorem test_ksa_bad_length :
    after (exec .rc4Ksa { State.reset with keylen := 5 }) (fun t => (t.statusWord, t.rs[1])) = some (0x00000016, 0) := by decide

/-- R242, by hand: with the key bytes 1, 2, 3 the first turns of the loop give j = 1, 3 and 8, so RS[1] = 3 after turn 1 and RS[2] = 8 after turn 2. -/
theorem test_ksa_turns :
    let st := [0, 1, 2].foldl (ksaTurn (fun k => BitVec.ofNat 8 (k + 1)) 16) { i := 0, j := 0, rs := tabulate 256 (BitVec.ofNat 8) }
    (st.j, st.rs[0], st.rs[1], st.rs[2]) = (8, 1, 3, 8) := by decide +kernel

/-- R243, R245, by hand from the identity: i = 1, j = 1, no change, output RS[2] = 2; then i = 2, j = 3, RS[2] = 3, RS[3] = 2, output RS[5] = 5. -/
theorem test_prga :
    after (exec (.rc4Prga 2) rc4Identity) (fun t => (t.result, t.rc4I, t.rc4J, t.rs[2], t.rs[3])) =
      some (0x02050000, 2, 3, 3, 2) := by decide +kernel

/-- 95 E18. -/
theorem test_prga_range : after (exec (.rc4Prga 0) rc4Identity) State.statusWord = some 0x00000446 := by decide

/-- R271's example, and the BE layout of 95 C7. -/
theorem test_cc_init :
    after (exec .ccInit (ccSetup Params.default)) (fun t => (t.statusWord, t.x[3], t.xi[4], t.x[12], t.x[13])) =
      some (0x00000802, 0x6B206574, 0x03020100, 0x00000001, 0x09000000) ∧
    after (exec .ccInit (ccSetup { Params.default with wordOrder := .be })) (fun t => (t.x[4], t.x[14])) =
      some (0x00010203, 0x0000004a) := by decide +kernel

/-- 95 E19 to E20: the key length is checked before the nonce length. -/
theorem test_cc_init_lengths :
    after (exec .ccInit { State.reset with keylen := 16, ivlen := 8 }) State.statusWord = some 0x00000016 ∧
      after (exec .ccInit { State.reset with keylen := 32, ivlen := 8 }) State.statusWord = some 0x00000026 := by decide

/-- R272's example (RFC 7539 2.1.1), and 95 C5's CC.QR 6. -/
theorem test_cc_qr :
    after (exec (.ccQr 0) { State.reset with
      x := #v[0x11111111, 0, 0, 0, 0x01020304, 0, 0, 0, 0x9B8D6F43, 0, 0, 0, 0x01234567, 0, 0, 0] })
      (fun t => (t.x[0], t.x[4], t.x[8], t.x[12])) = some (0xEA2A92F4, 0xCB1CF8CE, 0x4581472E, 0x5881C4BB) ∧
    after (exec (.ccQr 6) { State.reset with
      x := #v[0x879531e0, 0xc5ecf37d, 0x516461b1, 0xc9a62f8a, 0x44c20ef3, 0x3390af7f, 0xd9fc690b, 0x2a5f714c, 0x53372767,
        0xb00a5631, 0x974c541a, 0x359e9963, 0x5c971061, 0x3d631689, 0x2098d9d6, 0x91dbd320] })
      (fun t => (t.x[2], t.x[7], t.x[8], t.x[13], t.x[3])) = some (0xbdb886dc, 0xcfacafd2, 0xe46bea80, 0xccc07c79, 0xc9a62f8a) := by
  decide +kernel

/-- 95 E22. -/
theorem test_cc_qr_range : after (exec (.ccQr 8) State.reset) State.statusWord = some 0x00000046 := by decide

/-- The state of R271's example, after CC.INIT. -/
def ccReady (p : Params) : State :=
  let s := ccSetup p
  { s with x := chachaInit p.wordOrder s.key s.ctr s.nonce, xi := chachaInit p.wordOrder s.key s.ctr s.nonce }

/-- R273's example and the LISTED row of 95 C3. -/
theorem test_cc_dround :
    after (exec .ccDround (ccReady Params.default)) (fun t => (t.x[0], t.x[15])) = some (0xCD52E917, 0xF173888D) ∧
      after (exec .ccDround (ccReady { Params.default with qrOrder := .listed })) (fun t => (t.x[0], t.x[15])) =
        some (0x482e67d7, 0x9496d80c) := by decide +kernel

/-- R274: after reset CC.BLOCK leaves X zero and succeeds. -/
theorem test_cc_block_zero : after (exec .ccBlock State.reset) (fun t => (t.x[0], t.x[15], t.statusWord)) = some (0, 0, 2) := by
  decide +kernel

/-- R275: right after CC.INIT it doubles every word (95 C4). -/
theorem test_cc_feedfwd :
    after (exec .ccFeedfwd (ccReady Params.default)) (fun t => (t.x[0], t.x[3], t.x[12])) =
      some (0xc2e0f0ca, 0xd640cae8, 0x00000002) := by decide +kernel

end Effects

section BusTests

/-- 95 P-3: LEN and IRQEN store their fields only. -/
theorem test_len_masked : after (State.reset.wr 0x00C 0xFFFFFFFF) (fun t => t.readReg .len) = some 0x0000FFFF := by decide
theorem test_irqen_masked : after (State.reset.wr 0x008 0xFFFFFFFF) (fun t => t.readReg .irqen) = some 0x00000007 := by decide

/-- 95 P-10, P-11: a write while pending is dropped and sets OVR; IRQ follows OVR_IE. -/
theorem test_overrun :
    after (State.wr { pending 0 [] with irqen := 4 } 0x020 0x12345678) (fun t => (t.statusWord, t.irq, t.key[0])) =
      some (0x00000009, true, 0) := by decide

/-- 95 P-7 and P-9, from P-6's STATUS 0x56. -/
theorem test_w1c :
    after (State.wr { State.reset with status := { Status.reset with done := true, err := true, errcode := 5 } } 0x004 0x4)
      State.statusWord = some 0x00000002 ∧
    after (State.wr { State.reset with status := { Status.reset with done := true, err := true, errcode := 5 } } 0x004 0x2)
      State.statusWord = some 0x00000054 := by decide

/-- R47: the last words of the windows of W, SK, RS and DW. -/
theorem test_register_map :
    [0x2EC, 0x2F0, 0x378, 0x37C, 0x380, 0x7FC, 0x8EC, 0x8F0, 0x05C, 0x060, 0x064].map regAt =
      [.w 59, .reserved, .sklo 16, .skhi 16, .reserved, .rs 255, .dw 59, .reserved, .rc4ij, .id, .reserved] := by decide

/-- R72: what each malformed access is refused for. -/
theorem test_refusals :
    [({ master := .other, off := 0, bytes := 4, lanes := 0xF, op := .read } : Access),
     { master := .host, off := 0, bytes := 2, lanes := 0xF, op := .read },
     { master := .host, off := 0, bytes := 4, lanes := 0x7, op := .read },
     { master := .host, off := 2, bytes := 4, lanes := 0xF, op := .read },
     { master := .host, off := 0x1000, bytes := 4, lanes := 0xF, op := .read }].map
      (fun a => refusal (State.reset.hostAccess a)) =
      [.secondHost, .accessWidth, .partialLanes, .misaligned, .outsideWindow].map some := by decide

/-- R330: while reset is asserted a read returns 0, ID included, and a write of CMD issues nothing. -/
theorem test_held_in_reset :
    after (State.rd { State.reset with resetLine := true, rdata := 7 } 0x060) State.rdata = some 0 ∧
      after (State.wr { State.reset with resetLine := true } 0x000 1) (fun t => (t.pend.valid, t.cmd)) = some (false, 0) := by decide

end BusTests

section Witnesses

/-- DecodeAcceptsExactlyLegalWords: a word that decodes. -/
theorem witness_decode_accepts : decode 0x00000313 = .ok (.aesAddrk 3) := by decide

/-- IllegalWordCompletesWithCode5: one pending word for each of the four reasons, and 95 P-6's STATUS. -/
theorem witness_illegal_word :
    (pending 0x01000000 []).pend.valid = true ∧ (Fields.ofWord (pending 0x01000000 []).pend.word).rsv ≠ 0 ∧
    (Fields.ofWord (pending 0x00000002 []).pend.word).opDefined = false ∧
    ((Fields.ofWord (pending 0x00000114 []).pend.word).n ≠ 0 ∧ (Fields.ofWord (pending 0x00000114 []).pend.word).usesN = false) ∧
    ((Fields.ofWord (pending 0x00010013 []).pend.word).m ≠ 0 ∧ (Fields.ofWord (pending 0x00010013 []).pend.word).usesM = false) ∧
    after ((pending 0x01000000 []).perform .engine) State.statusWord = some 0x00000056 := by decide

/-- AssemblerAcceptsExactlyWellFormedLines: a line that assembles, with the greatest operands. -/
theorem witness_assembler : assemble { mnemonic := "GF.MUL", operands := [255, 0] } = some (.gfMul 255 0) := by decide

/-- StepRunsDecodedCommand: a pending NOP and a pending illegal word under each agenda. -/
theorem witness_step_runs :
    (pending 0 []).pend.valid = true ∧ decode (pending 0 []).pend.word = .ok .nop ∧ (pending 0 []).agenda = [] ∧
      (pending 0 [.engine]).agenda = .engine :: [] ∧ decode (pending 2 [.engine]).pend.word = .error .reservedOp ∧
      after (step (pending 2 [.engine])) State.statusWord = some 0x00000056 := by decide

/-- StepFollowsTheAgenda: a state for each clause. -/
theorem witness_step_follows :
    ({ State.reset with agenda := [rdEvent 0x004] } : State).agenda =
      .access { master := .host, off := 0x004, bytes := 4, lanes := 0xF, op := .read } :: [] ∧
    State.reset.pend.valid = false ∧ State.reset.agenda = [] ∧
    ({ State.reset with agenda := [.engine] } : State).agenda = .engine :: [] := by decide

/-- StepStopsExactlyOnIllegalAccess: a legal access steps and a misaligned one does not. -/
theorem witness_step_stops :
    (after (step { State.reset with agenda := [rdEvent 0xFFC] }) (fun t => t.rdata)) = some 0 ∧
      refusal (step { State.reset with agenda := [rdEvent 0xFFD] }) = some .misaligned := by decide

/-- CmdPseudoOperationCompletes: a NOP with two polls before the engine's turn, and an event after it. -/
theorem witness_cmd_pseudo_operation :
    (State.idle { State.reset with agenda := cmdEvents .nop 2 ++ [rdEvent 0x000] }) ∧
      after (runSteps 5 { State.reset with agenda := cmdEvents .nop 2 ++ [rdEvent 0x000] })
        (fun t => (t.rdata, t.agenda)) = some (0x00000002, [rdEvent 0x000]) := ⟨⟨rfl, rfl⟩, by decide⟩

/-- IssueTakesTheWord, StatusWriteClearsOnes, StatusReadsItsFields, WritableRegistersStoreTheirFields, ReservedAndReadOnlyIgnoreWrites,
IrqFollowsStatusAndEnables: the reset input is released, with and without a command pending. -/
theorem witness_reset_released :
    State.reset.resetLine = false ∧ State.reset.pend.valid = false ∧ (pending 0 []).resetLine = false ∧
      (pending 0 []).pend.valid = true := by decide

/-- OverrunIsSetByDroppedWriteAndSticky: a dropped write at the lowest and the highest offset and just beside IRQEN. -/
theorem witness_overrun_dropped :
    ∀ off ∈ [0x000, 0x00C, 0xFFC], windowOff off ∧ off ≠ 0x004 ∧ off ≠ 0x008 ∧
      after ((pending 0 []).wr off 1) (fun t => t.status.ovr) = some true := by
  simp only [windowOff]; decide

/-- OverrunIsSetByDroppedWriteAndSticky: OVR cleared by W1C, by reset and by CLEAR, and set by a dropped write. -/
theorem witness_overrun_sticky :
    after (State.perform { State.reset with status := Status.reset.overrun } (wrEvent 0x004 0x8)) (fun t => t.status.ovr) = some false ∧
    after (State.perform { State.reset with status := Status.reset.overrun } .assertReset) (fun t => t.status.ovr) = some false ∧
    after (State.perform { pending 1 [] with status := Status.reset.overrun } .engine) (fun t => t.status.ovr) = some false ∧
    after ((pending 0 []).perform (wrEvent 0x000 1)) (fun t => (t.status.ovr, t.cmd)) = some (true, 0) := by decide

/-- ReservedAndReadOnlyIgnoreWrites: the first and last offset of each range, by what register stands there. -/
theorem witness_reserved_ranges :
    (∀ off ∈ [0x064, 0x0FC, 0x180, 0x1FC, 0x2F0, 0x2FC, 0x380, 0x3FC, 0x8F0, 0xFFC], regAt off = .reserved) ∧
      ([0x010, 0x018, 0x01C, 0x05C, 0x140, 0x2EC, 0x8EC].map regAt = [.result, .desl, .desr, .rc4ij, .xi 0, .w 59, .dw 59]) := by
  decide

/-- ReadsReturnTheRegisterMap: an idle state, read at boundary indices of the indexed ranges. -/
theorem witness_register_map :
    State.reset.idle ∧
      after (State.rd { State.reset with key := #v[0, 0, 0, 0, 0, 0, 0, 9] } 0x03C) State.rdata = some 9 ∧
      after (State.rd { State.reset with sk := tabulate 16 fun i => BitVec.ofNat 48 (0x100000000 * i + i) } 0x37C) State.rdata =
        some 15 := ⟨⟨rfl, rfl⟩, by decide, by decide⟩

/-- BusyReadsReturnCurrentOrFreeValue: a pending command; the offsets around the readable ones take a draw. -/
theorem witness_busy_reads :
    (pending 5 []).pend.valid = true ∧ (pending 5 []).resetLine = false ∧
      after ((pending 5 []).rd 0x000) (fun t => (t.rdata, t.draws)) = some (5, 0) ∧
      (∀ off ∈ [0x00C, 0x05C, 0x064, 0xFFC], after ((pending 5 []).rd off) (fun t => t.draws) = some 1) := by decide

/-- ReadsHaveNoSideEffect: a read that answers a next state. -/
theorem witness_read_answers :
    ∃ t, State.reset.hostAccess { master := .host, off := 0, bytes := 4, lanes := 0xF, op := .read } = .next t := ⟨_, rfl⟩

/-- HostAccessesKeepSchedules: a write of LEN with a schedule loaded answers a next state. -/
theorem witness_stale_schedule :
    after (State.wr (aesB #v[0, 0, 0, 0]) 0x00C 20) (fun t => (t.keylen, t.w[4], t.status.aesRkv)) = some (20, 0xa0fafe17, true) := by
  decide

/-- ResetLeavesTheStatedValues: the first, the ID and the last offset. -/
theorem witness_reset_values :
    windowOff 0x000 ∧ windowOff 0x060 ∧ windowOff 0xFFC ∧
      [0x000, 0x060, 0xFFC].map (fun off => after (State.reset.rd off) State.rdata) = [some 0, some 0x434F5245, some 0] := by
  simp only [windowOff]; decide

/-- ResetEventRestoresResetState: each clause's agenda, and a state held in reset. -/
theorem witness_reset_event :
    after (step { pending 1 [.assertReset, .engine] with irqen := 7 }) (fun t => (t.pend.valid, t.irqen, t.resetLine, t.agenda)) =
      some (false, 0, true, [.engine]) ∧
    after (step { State.reset with resetLine := true, agenda := [.releaseReset] }) (fun t => t.resetLine) = some false ∧
    ({ State.reset with resetLine := true } : State).resetLine = true := by decide

/-- InstancesAreIndependent: a platform of two instances; an access goes to the one whose window holds its address. -/
theorem witness_instances :
    ((deliver [{ place := { base := 0x1000, irq := 0 }, state := State.reset }, { place := { base := 0x2000, irq := 1 }, state := State.reset }]
      0x2004 .read).map (fun i => i.state.agenda)) = [[], [rdEvent 0x004]] ∧
    (match platformStep [{ place := { base := 0x1000, irq := 0 }, state := pending 0 [] }, { place := { base := 0x2000, irq := 1 }, state := pending 0 [] }] 1 with
      | .next q => q.map (fun i => i.state.pend.valid)
      | .fault _ => []
      | .refused _ => []) = [true, false] := by decide

/-- ClearDiffersFromResetInThree: an idle state, and a pending command that a CLEAR does not abort. -/
theorem witness_clear :
    State.reset.idle ∧ after ((pending 0 []).wr 0x000 1) (fun t => (t.pend.word, t.status.ovr)) = some (0, true) :=
  ⟨⟨rfl, rfl⟩, by decide⟩

/-- AesKeyexpBuildsSchedules, AesEncryptDecryptRestoresBlock: the three key lengths complete (A1's keys of bytes
00, 01, ...). -/
theorem witness_keyexp :
    after (exec .aesKeyexp { ccSetup Params.default with keylen := 16 }) State.statusWord = some 0x0000A102 ∧
      after (exec .aesKeyexp { ccSetup Params.default with keylen := 24 }) State.statusWord = some 0x0000C102 ∧
      after (exec .aesKeyexp { ccSetup Params.default with keylen := 32 }) State.statusWord = some 0x0000E102 := by
  decide +kernel

/-- AesBlockCommandsComplete, AesRoundCommandsComplete, AesBlockCommandsEqualRoundCommands: a loaded schedule, and n at both ends of its ranges. -/
theorem witness_aes_loaded :
    (aesB #v[0, 0, 0, 0]).status.aesRkv = true ∧
      (∀ n ∈ [(0 : Byte), 10], n.toNat ≤ (aesB #v[0, 0, 0, 0]).nr) ∧
      (∀ n ∈ [(1 : Byte), 9], 1 ≤ n.toNat ∧ n.toNat + 1 ≤ (aesB #v[0, 0, 0, 0]).nr) := by decide

/-- GfMulIsFieldMultiplication, SboxIsInverseThenAffineMap: a byte that is not 0 with its inverse (R166), and 0 with 0. -/
theorem witness_gf : (0x53 : Byte) ≠ 0 ∧ gmul 0x53 0xCA = 1 ∧ (gmul 0 0 = 1 ∨ ((0 : Byte) = 0 ∧ (0 : Byte) = 0)) := by decide

/-- PermuteSelectsInputPositions: IP has 64 positions; its first output is input position 58. -/
theorem witness_permute : ipTable.length = 64 ∧ ipTable[0] = 58 ∧ ipTable[63] = 7 := by decide

/-- DesKeyschedBuildsSubkeys: KEYLEN 8. DesParityBitsAffectNoSubkey: 95 D5's two keys differ only in parity bits. -/
theorem witness_des_keys :
    ({ State.reset with keylen := 8 } : State).keylen = 8 ∧
      ((0x12345678#32 ++ 0x9ABCDEF0#32) ^^^ (0x13355779#32 ++ 0x9BBDDFF1#32)) &&& 0xFEFEFEFEFEFEFEFE#64 = 0 := by decide

/-- DesBlockCommandsComplete, DesStepCommandsComplete, DesBlockCommandsEqualRoundCommands, DesEncryptDecryptRestoresBlock: a loaded schedule, and n at both
ends of 1..16. -/
theorem witness_des_loaded :
    ({ State.reset with status := desStatus } : State).status.desSkv = true ∧
      ∀ n ∈ [(1 : Byte), 16], 1 ≤ n.toNat ∧ n.toNat ≤ 16 ∧
        after (exec (.desRound n) { State.reset with status := desStatus }) (fun t => t.status.err) = some false := by decide

/-- Rc4KsaBuildsPermutation: both key lengths complete. -/
theorem witness_ksa :
    ∀ l ∈ [(16 : Byte), 32], after (exec .rc4Ksa { State.reset with keylen := l }) State.statusWord = some 0x00000402 := by decide

/-- Rc4PrgaProducesKeystream, Rc4PrgaCountsCompose: a keyed state, n at both ends of 1..4, and counts that add up to 4. -/
theorem witness_prga :
    rc4Identity.status.rc4Rdy = true ∧ (∀ n ∈ [(1 : Byte), 4], 1 ≤ n.toNat ∧ n.toNat ≤ 4) ∧
      1 ≤ (1 : Byte).toNat ∧ 1 ≤ (3 : Byte).toNat ∧ (1 : Byte).toNat + (3 : Byte).toNat ≤ 4 := by decide

/-- CcInitBuildsState: KEYLEN 32 and IVLEN 12. CcQrMixesOneGroup: g at both ends of 0..7. -/
theorem witness_cc :
    (ccSetup Params.default).keylen = 32 ∧ (ccSetup Params.default).ivlen = 12 ∧
      ∀ g ∈ [(0 : Byte), 7], g.toNat < 8 ∧ after (exec (.ccQr g) State.reset) (fun t => t.status.err) = some false := by decide

/-- ScheduleCommandsRejectBadLengths: lengths just beside the accepted ones. -/
theorem witness_bad_lengths :
    (∀ l ∈ [(0 : Byte), 15, 17, 23, 25, 31, 33, 255], l ≠ 16 ∧ l ≠ 24 ∧ l ≠ 32 ∧ l ≠ 8 ∧
      after (exec .rc4Ksa { State.reset with keylen := l }) State.statusWord = some 0x00000016) ∧
    (∀ v ∈ [(11 : Byte), 13], v ≠ 12 ∧
      after (exec .ccInit { State.reset with keylen := 32, ivlen := v }) State.statusWord = some 0x00000026) := by decide

/-- UnreadyCommandsRaiseNotReady: after reset every flag is 0; 95 E3's operand 200. -/
theorem witness_not_ready :
    State.reset.status.aesRkv = false ∧ State.reset.status.desSkv = false ∧ State.reset.status.rc4Rdy = false ∧
      after (exec (.aesAddrk 200) State.reset) State.statusWord = some 0x00000036 := by decide

/-- OperandsOutOfRangeRaiseBadOperand: the first values outside each range. -/
theorem witness_bad_operand :
    (aesB #v[0, 0, 0, 0]).nr < (11 : Byte).toNat ∧ ((0 : Byte).toNat < 1 ∨ (aesB #v[0, 0, 0, 0]).nr ≤ (0 : Byte).toNat) ∧
      (aesB #v[0, 0, 0, 0]).nr ≤ (10 : Byte).toNat ∧ 16 < (17 : Byte).toNat ∧ 4 < (5 : Byte).toNat ∧ 7 < (8 : Byte).toNat ∧
      after (exec (.rc4Prga 5) rc4Identity) State.statusWord = some 0x00000446 := by decide

/-- FailedCommandsChangeOnlyStatus: a command that completes with ERR = 1. -/
theorem witness_failed : ∃ t, exec .aesEncblk State.reset = .next t ∧ t.status.err = true := ⟨_, rfl, rfl⟩

/-- CommandsWriteOnlyTheirState: a command that writes none of the guarded state, and a DES command that writes BLK. -/
theorem witness_writes :
    (∃ t, exec .nop State.reset = .next t) ∧ Instr.nop ≠ .clear ∧ Instr.nop.writesBlk = false ∧ Instr.nop.writesHalves = false ∧
      Instr.nop.writesResult = false ∧ Instr.nop.writesX = false ∧ Instr.nop.writesRc4 = false ∧ Instr.desFp.isDes = true ∧
      Instr.desFp.writesBlk = true := ⟨⟨_, rfl⟩, by decide⟩

/-- EveryStepKeepsInvariant: a state that meets the invariant and has a command pending. -/
theorem witness_invariant : (pending 0 []).Inv ∧ ∃ t, step (pending 0 []) = .next t := by
  refine ⟨⟨?_, ?_, ?_, ?_, ?_, ?_, ?_, ?_, ?_, ?_, ?_, ?_, ?_⟩, _, rfl⟩
  · decide
  · decide
  · exact fun _ => ⟨rfl, rfl, rfl, rfl⟩
  · exact fun h => absurd h (by decide)
  · exact fun h => absurd h (by decide)
  · exact fun h => absurd h (by decide)
  · exact fun _ => ⟨rfl, rfl, rfl⟩
  · exact fun h => absurd h (by decide)
  · exact fun _ => rfl
  · exact fun h => absurd h (by decide)
  · exact fun _ => ⟨rfl, rfl, rfl⟩
  · exact fun h => absurd h (by decide)
  · exact fun _ => rfl

end Witnesses

end Sys2Proof.Tests
end

namespace Sys2Proof.Machine

/-! PROOFS. The outcome of a command as a postcondition. -/

/-- The outcome `r` is a next state of which `P` holds. -/
def Answers (r : Result) (P : State → Prop) : Prop := ∃ t, r = .next t ∧ P t

/-- A postcondition of an outcome holds of the next state it gives. -/
theorem Answers.of_next {r : Result} {P : State → Prop} {t : State} (h : Answers r P) (hr : r = .next t) : P t := by
  obtain ⟨u, hu, hP⟩ := h
  cases hu.symm.trans hr
  exact hP

/-- R293: what holds of the completed state holds after a command that succeeds. -/
theorem answers_finish {s : State} {P : State → Prop} (h : P s.succeeded) : Answers s.finish P :=
  ⟨_, State.finish_eq s, h⟩

/-- R122: a checked command meets what its error and its remainder both meet. -/
theorem answers_require {s : State} {ok : Bool} {e : CmdError} {k : Result} {P : State → Prop}
    (hfail : ok = false → P (s.failedWith e.code)) (hgo : ok = true → Answers k P) : Answers (s.require ok e k) P := by
  obtain ⟨hok, h⟩ | ⟨hok, h⟩ := State.require_cases s ok e k
  · rw [h]
    exact hgo hok
  · exact ⟨_, h, hfail hok⟩

/-! PROOFS. OVR across a command and across the engine's turn (10_state.md R28). -/

/-- R151, R28: AES.KEYEXP keeps OVR, whether it accepts the key length or not. -/
theorem execAesKeyexp_ovr (s : State) : Answers (execAesKeyexp s) fun t => t.status.ovr = s.status.ovr := by
  unfold execAesKeyexp
  cases aesSize s.keylen with
  | none => exact ⟨_, rfl, rfl⟩
  | some z => exact answers_finish rfl

/-- R28: every command but CLEAR completes with OVR as it was. The commands are grouped by the number of their checks (R122). -/
theorem exec_ovr (i : Instr) (s : State) (hi : i ≠ .clear) : Answers (exec i s) fun t => t.status.ovr = s.status.ovr := by
  cases i with
  | clear => exact absurd rfl hi
  | aesKeyexp => exact execAesKeyexp_ovr s
  | nop | aesSubbytes | aesShiftrows | aesMixcols | aesInvsubbytes | aesInvshiftrows | aesInvmixcols
  | gfMul _ _ | gfXtime _ | aesSbox _ | aesInvsbox _ | desIp | desFp | ccDround | ccBlock | ccFeedfwd =>
    exact answers_finish rfl
  | aesEncblk | aesDecblk | aesEnclast | aesDeclast | desKeysched | desEncblk | desDecblk | rc4Ksa | ccQr _ =>
    exact answers_require (fun _ => rfl) fun _ => answers_finish rfl
  | aesAddrk _ | aesAdddrk _ | aesEncrnd _ | aesDecrnd _ | desRound _ | desFeistel _ | rc4Prga _ | ccInit =>
    exact answers_require (fun _ => rfl) fun _ => answers_require (fun _ => rfl) fun _ => answers_finish rfl

/-- R124: after CLEAR OVR is 0. -/
theorem exec_clear_ovr (s : State) : Answers (exec .clear s) fun t => t.status.ovr = false := answers_finish rfl

/-- R121, R28: the engine's turn keeps OVR, or it performs CLEAR, which leaves it 0. -/
theorem State.engineTurn_ovr {s t : State} (h : s.engineTurn = .next t) :
    t.status.ovr = s.status.ovr ∨
    (s.pend.valid = true ∧ decode s.pend.word = .ok .clear ∧ t.status.ovr = false) := by
  obtain ⟨-, hs⟩ | ⟨hv, i, hd, hx⟩ | ⟨-, e, -, hs⟩ := s.engineTurn_cases
  · cases hs.symm.trans h
    exact .inl rfl
  · rw [hx] at h
    by_cases hi : i = .clear
    · subst hi
      exact .inr ⟨hv, hd, (exec_clear_ovr _).of_next h⟩
    · exact .inl ((exec_ovr i s.takePending hi).of_next h)
  · cases hs.symm.trans h
    exact .inl rfl

/-! PROOFS. The register map read from the register's side (10_state.md R47, R48). -/

/-- R47, from the register's side: what the offset must be where a register of this kind stands. -/
def Reg.coveredBy (off : Nat) : Reg → Prop
  | .cmd => off = 0x000
  | .status => off = 0x004
  | .irqen => off = 0x008
  | .len => off = 0x00C
  | .result => off = 0x010
  | .ctr => off = 0x014
  | .desl => off = 0x018
  | .desr => off = 0x01C
  | .key _ => 0x020 ≤ off ∧ off ≤ 0x03C
  | .blk _ => 0x040 ≤ off ∧ off ≤ 0x04C
  | .nonce _ => 0x050 ≤ off ∧ off ≤ 0x058
  | .rc4ij => off = 0x05C
  | .id => off = 0x060
  | .x _ => 0x100 ≤ off ∧ off ≤ 0x13C
  | .xi _ => 0x140 ≤ off ∧ off ≤ 0x17C
  | .w _ => 0x200 ≤ off ∧ off ≤ 0x2EC
  | .sklo _ | .skhi _ => 0x300 ≤ off ∧ off ≤ 0x37C
  | .rs _ => 0x400 ≤ off ∧ off ≤ 0x7FC
  | .dw _ => 0x800 ≤ off ∧ off ≤ 0x8EC
  | .reserved => True

/-- R47: the offset lies where the register found at it stands. The predicate `P` keeps Lean from computing the offsets' comparisons while
it goes down the map. -/
theorem regAt_coveredBy (off : Nat) : (regAt off).coveredBy off := by
  suffices h : ∀ P : Reg → Prop, (∀ r, r.coveredBy off → P r) → P (regAt off) from h _ fun _ => id
  intro P hP
  unfold regAt
  iterate 16 refine iteInduction (motive := P) (fun h => hP _ h) (fun _ => ?_)
  refine iteInduction (motive := P) (fun h => ?_) (fun _ => ?_)
  · exact iteInduction (motive := P) (fun _ => hP (.sklo _) h) (fun _ => hP (.skhi _) h)
  iterate 2 refine iteInduction (motive := P) (fun h => hP _ h) (fun _ => ?_)
  exact hP .reserved trivial

/-- R47: STATUS stands at offset 0x004 only. -/
theorem regAt_ne_status {off : Nat} (h : off ≠ 0x004) : regAt off ≠ .status := by
  intro hr
  have hc := regAt_coveredBy off
  rw [hr] at hc
  exact h hc

/-- R28: no offset but those of STATUS and IRQEN takes a write while a command is pending. -/
theorem regAt_not_writableWhileBusy {off : Nat} (h4 : off ≠ 0x004) (h8 : off ≠ 0x008) :
    (regAt off).writableWhileBusy = false := by
  have hc := regAt_coveredBy off
  generalize regAt off = r at hc
  cases r with
  | status => exact absurd hc h4
  | irqen => exact absurd hc h8
  | _ => rfl

/-- R74: the registers a host write can change. -/
def Reg.hostWritable : Reg → Bool
  | .cmd | .status | .irqen | .len | .ctr | .key _ | .blk _ | .nonce _ | .x _ => true
  | _ => false

/-- R48: a write to a read-only or reserved register is ignored. -/
theorem State.writeReg_of_not_hostWritable (s : State) {r : Reg} (v : Word) (h : r.hostWritable = false) :
    s.writeReg r v = s := by
  cases r with
  | cmd | status | irqen | len | ctr | key _ | blk _ | nonce _ | x _ => cases h
  | _ => rfl

/-- R28, R74: what no host write changes takes no write while a command is pending. -/
theorem Reg.not_writableWhileBusy_of_not_hostWritable {r : Reg} (h : r.hostWritable = false) :
    r.writableWhileBusy = false := by
  cases r with
  | status | irqen => cases h
  | _ => rfl

/-- R48: the offsets that stand for a read-only register or for none. -/
theorem regAt_not_hostWritable {off : Nat}
    (h : off = 0x010 ∨ off = 0x018 ∨ off = 0x01C ∨ (off < 0x100 ∧ 0x05C ≤ off) ∨ 0x140 ≤ off) :
    (regAt off).hostWritable = false := by
  have hc := regAt_coveredBy off
  generalize regAt off = r at hc
  cases r with
  | cmd | status | irqen | len | ctr | key _ | blk _ | nonce _ | x _ =>
    simp only [Reg.coveredBy] at hc
    omega
  | _ => rfl

/-- R47, R48: the gaps of the register map. -/
theorem regAt_eq_reserved {off : Nat}
    (h : (off < 0x100 ∧ 0x064 ≤ off) ∨ (off < 0x200 ∧ 0x180 ≤ off) ∨ (off < 0x300 ∧ 0x2F0 ≤ off) ∨
      (off < 0x400 ∧ 0x380 ≤ off) ∨ 0x8F0 ≤ off) : regAt off = .reserved := by
  have hc := regAt_coveredBy off
  generalize regAt off = r at hc
  cases r with
  | reserved => rfl
  | _ =>
    simp only [Reg.coveredBy] at hc
    omega

/-- R24, R27: no write to another register than STATUS changes OVR. -/
theorem State.writeReg_ovr (s : State) {r : Reg} (v : Word) (hr : r ≠ .status) :
    (s.writeReg r v).status.ovr = s.status.ovr := by
  cases r with
  | status => exact absurd rfl hr
  | _ => rfl

/-! PROOFS. Host accesses by the register at their offset (20_memory.md R73, R74). -/

/-- R110: a host write in the window is performed. -/
theorem State.wr_eq (s : State) {off : Nat} (v : Word) (h : windowOff off) : s.wr off v = .next (s.hostWrite off v) :=
  s.hostAccess_of_legal _ ⟨rfl, rfl, rfl, h⟩

/-- R110: a host read in the window is performed. -/
theorem State.rd_eq (s : State) {off : Nat} (h : windowOff off) : s.rd off = .next (s.hostRead off) :=
  s.hostAccess_of_legal _ ⟨rfl, rfl, rfl, h⟩

/-- R74: with reset released and no command pending a host write goes to the register at its offset. -/
theorem State.hostWrite_of_idle (s : State) (off : Nat) (v : Word) (hr : s.resetLine = false) (hv : s.pend.valid = false) :
    s.hostWrite off v = s.writeReg (regAt off) v := by
  simp [State.hostWrite, State.busy, hr, hv]

/-- R28: with reset released and a command pending a host write is dropped, except at STATUS and IRQEN. -/
theorem State.hostWrite_of_busy (s : State) (off : Nat) (v : Word) (hr : s.resetLine = false) (hv : s.pend.valid = true)
    (hw : (regAt off).writableWhileBusy = false) : s.hostWrite off v = { s with status := s.status.overrun } := by
  simp [State.hostWrite, State.busy, hr, hv, hw]

/-- R73: with reset released a host read returns the register at its offset, if no command is pending or the register is one of those that
are readable then. -/
theorem State.hostRead_of_readable (s : State) (off : Nat) (hr : s.resetLine = false)
    (h : s.pend.valid = false ∨ (regAt off).readableWhileBusy = true) :
    s.hostRead off = { s with rdata := s.readReg (regAt off) } := by
  obtain hv | hb := h
  · simp [State.hostRead, State.busy, hr, hv]
  · simp [State.hostRead, hr, hb]

/-- A host write that the register at its offset cannot tell from another one has the same outcome, dropped or not. -/
theorem State.wr_congr (s : State) (off : Nat) {v u : Word} (ho : windowOff off)
    (h : s.writeReg (regAt off) v = s.writeReg (regAt off) u) : s.wr off v = s.wr off u := by
  simp only [State.wr_eq s _ ho, State.hostWrite, h]

/-! PROOFS. What each event can do to OVR (10_state.md R28). -/

/-- R28: everything a host write in the window can do to OVR. -/
theorem State.hostWrite_ovr (s : State) (off : Nat) (v : Word) :
    (s.hostWrite off v).status.ovr = s.status.ovr ∨
    (off = 0x004 ∧ (s.hostWrite off v).status.ovr = (s.status.ovr && !v.getLsbD 3)) ∨
    (off ≠ 0x004 ∧ off ≠ 0x008 ∧ s.pend.valid = true ∧ (s.hostWrite off v).status.ovr = true) := by
  obtain ⟨-, hs⟩ | ⟨-, hv, hw, hs⟩ | ⟨-, -, hs⟩ := s.hostWrite_cases off v <;> rw [hs]
  · exact .inl rfl
  · refine .inr (.inr ⟨?_, ?_, hv, rfl⟩)
    · rintro rfl
      cases hw
    · rintro rfl
      cases hw
  · by_cases h4 : off = 0x004
    · subst h4
      exact .inr (.inl ⟨rfl, rfl⟩)
    · exact .inl (s.writeReg_ovr v (regAt_ne_status h4))

/-- R28: everything an event can do to OVR. -/
theorem State.perform_ovr {s t : State} {e : Event} (h : s.perform e = .next t) :
    t.status.ovr = s.status.ovr ∨
    (∃ a v, e = .access a ∧ a.op = .write v ∧ a.off = 0x004 ∧ t.status.ovr = (s.status.ovr && !v.getLsbD 3)) ∨
    (∃ a v, e = .access a ∧ a.op = .write v ∧ a.off ≠ 0x004 ∧ a.off ≠ 0x008 ∧ s.pend.valid = true ∧
      t.status.ovr = true) ∨
    (e = .assertReset ∧ t.status.ovr = false) ∨
    (e = .engine ∧ s.pend.valid = true ∧ decode s.pend.word = .ok .clear ∧ t.status.ovr = false) := by
  cases e with
  | access a =>
    obtain ⟨-, ⟨-, rfl⟩ | ⟨v, hop, rfl⟩⟩ := State.hostAccess_cases h
    · rw [State.hostRead_frame]
      exact .inl rfl
    · obtain hk | ⟨h4, hc⟩ | ⟨h4, h8, hv, ho⟩ := s.hostWrite_ovr a.off v
      · exact .inl hk
      · exact .inr (.inl ⟨a, v, rfl, hop, h4, hc⟩)
      · exact .inr (.inr (.inl ⟨a, v, rfl, hop, h4, h8, hv, ho⟩))
  | engine =>
    obtain hk | hc := State.engineTurn_ovr h
    · exact .inl hk
    · exact .inr (.inr (.inr (.inr ⟨rfl, hc⟩)))
  | assertReset =>
    cases h
    exact .inr (.inr (.inr (.inl ⟨rfl, rfl⟩)))
  | releaseReset =>
    cases h
    exact .inl rfl

/-! PROOFS. Reserved fields (10_state.md R48). -/

/-- R24: the reserved bits of a written STATUS word have no effect. -/
theorem Status.writeOneToClear_low (st : Status) (v : Word) :
    st.writeOneToClear (v &&& 0x0000FFFF) = st.writeOneToClear v := by
  simp [Status.writeOneToClear]

/-- R30: AES_NR fits its four bits of STATUS. -/
theorem State.nr_bit_high (s : State) {k : Nat} (hk : 4 ≤ k) (hw : k < 32) : (BitVec.ofNat 32 s.nr)[k] = false := by
  have hnr : s.nr < 2 ^ 4 := by
    unfold State.nr
    cases s.status.aesNr <;> decide
  rw [← BitVec.getLsbD_eq_getElem, BitVec.getLsbD_ofNat,
    Nat.testBit_lt_two_pow (hnr.trans_le (Nat.pow_le_pow_right (by decide) hk)), Bool.and_false]

/-- R24: the reserved bits 31:16 of STATUS read 0. -/
theorem State.statusWord_high (s : State) : s.statusWord.extractLsb' 16 16 = 0 := by
  apply BitVec.eq_of_getLsbD_eq
  intro i hi
  interval_cases i <;> simp [State.statusWord, flagBit, s.nr_bit_high]

/-- R32, R40: two bytes in the low half of a register leave its high half 0. -/
theorem bytePair_high (a b : Byte) :
    ((a.setWidth 32 <<< 8) ||| b.setWidth 32 : Word).extractLsb' 16 16 = 0 := by
  apply BitVec.eq_of_getLsbD_eq
  intro i hi
  interval_cases i <;> simp

/-- R31: a three-bit field at the bottom of a register leaves the bits above it 0. -/
theorem threeBits_high (a : BitVec 3) : (a.setWidth 32).extractLsb' 3 29 = 0 := by
  apply BitVec.eq_of_getLsbD_eq
  intro i hi
  simp

/-- A mask that is 1 in every bit of a field keeps the field. -/
theorem extractLsb'_and_of_allOnes {k n : Nat} {m : Word} (v : Word) (h : m.extractLsb' k n = BitVec.allOnes n) :
    (v &&& m).extractLsb' k n = v.extractLsb' k n := by
  rw [BitVec.extractLsb'_and, h, BitVec.and_allOnes]

/-! PROOFS. Read-only and reserved offsets (10_state.md R48). -/

/-- R47: a read in the window while the machine is idle answers the register at its offset. -/
theorem State.rd_of_idle (s : State) {off : Nat} (ho : windowOff off) (hr : s.resetLine = false) (hv : s.pend.valid = false) :
    s.rd off = .next { s with rdata := s.readReg (regAt off) } := by
  rw [s.rd_eq ho, s.hostRead_of_readable off hr (.inl hv)]

/-- R48: a write at the offset of a register no host write changes is ignored, the machine being idle. -/
theorem State.wr_readOnly_of_idle (s : State) {off : Nat} (v : Word) (ho : windowOff off) (hr : s.resetLine = false)
    (hv : s.pend.valid = false) (hw : (regAt off).hostWritable = false) : s.wr off v = .next s := by
  rw [s.wr_eq v ho, s.hostWrite_of_idle off v hr hv, s.writeReg_of_not_hostWritable v hw]

/-- R28, R48: the same write is dropped and sets OVR while a command is pending. -/
theorem State.wr_readOnly_of_busy (s : State) {off : Nat} (v : Word) (ho : windowOff off) (hr : s.resetLine = false)
    (hv : s.pend.valid = true) (hw : (regAt off).hostWritable = false) :
    s.wr off v = .next { s with status := s.status.overrun } := by
  rw [s.wr_eq v ho, s.hostWrite_of_busy off v hr hv (Reg.not_writableWhileBusy_of_not_hostWritable hw)]

/-- R48: reserved fields ignore writes, whether the write is performed or not. -/
theorem State.wr_reservedFields (s : State) (v : Word) :
    s.wr 0x004 v = s.wr 0x004 (v &&& 0x0000FFFF) ∧ s.wr 0x008 v = s.wr 0x008 (v &&& 0x00000007) ∧
      s.wr 0x00C v = s.wr 0x00C (v &&& 0x0000FFFF) := by
  refine ⟨s.wr_congr _ ⟨rfl, by decide⟩ ?_, s.wr_congr _ ⟨rfl, by decide⟩ ?_, s.wr_congr _ ⟨rfl, by decide⟩ ?_⟩
  · show { s with status := _ } = { s with status := _ }
    rw [Status.writeOneToClear_low]
  · show { s with irqen := _ } = { s with irqen := _ }
    rw [extractLsb'_and_of_allOnes v (by decide)]
  · show { s with keylen := _, ivlen := _ } = { s with keylen := _, ivlen := _ }
    rw [extractLsb'_and_of_allOnes v (by decide), extractLsb'_and_of_allOnes v (by decide)]

/-! PROOFS. The statements of 10_state.md. -/

/-- Settles O11: R28's drop is the write rule of the busy engine; what may clear or set OVR is read off the list of everything an event can
do to it. -/
theorem overrunIsSetByDroppedWriteAndSticky : Obligations.OverrunIsSetByDroppedWriteAndSticky := by
  refine ⟨?_, ?_, ?_⟩
  · intro s off v hv hr ho h4 h8
    rw [s.wr_eq v ho, s.hostWrite_of_busy off v hr hv (regAt_not_writableWhileBusy h4 h8)]
    rfl
  · intro s t e h hs ht
    obtain hk | ⟨a, v, he, hop, h4, hc⟩ | ⟨a, v, -, -, -, -, -, ho⟩ | ⟨he, -⟩ | ⟨he, hv, hd, -⟩ := State.perform_ovr h
    · simp [hk, hs] at ht
    · exact .inl ⟨a, v, he, hop, h4, by simpa [hc, hs] using ht⟩
    · simp [ho] at ht
    · exact .inr (.inl he)
    · exact .inr (.inr ⟨he, hv, hd⟩)
  · intro s t e h hs ht
    obtain hk | ⟨a, v, -, -, -, hc⟩ | ⟨a, v, he, hop, h4, h8, hv, -⟩ | ⟨-, hc⟩ | ⟨-, -, -, hc⟩ := State.perform_ovr h
    · simp [hk, hs] at ht
    · simp [hc, hs] at ht
    · exact ⟨a, v, he, hop, h4, h8, hv⟩
    · simp [hc] at ht
    · simp [hc] at ht

/-- Settles O15: by the register at the offset: what no host write changes ignores a write or drops it, a gap of the map reads 0, and the
fields' own bits are all that is stored or read. -/
theorem reservedAndReadOnlyIgnoreWrites : Obligations.ReservedAndReadOnlyIgnoreWrites := by
  intro s hr
  refine ⟨?_, ?_, s.wr_reservedFields, ?_⟩
  · intro hv off ho h
    have hreg : regAt off = .reserved := regAt_eq_reserved h
    refine ⟨?_, fun v => s.wr_readOnly_of_idle v ho hr hv (by rw [hreg]; rfl)⟩
    rw [s.rd_of_idle ho hr hv, hreg]
    rfl
  · intro off v ho h
    have hw := regAt_not_hostWritable h
    exact ⟨fun hv => s.wr_readOnly_of_idle v ho hr hv hw, fun hv => s.wr_readOnly_of_busy v ho hr hv hw⟩
  · intro hv
    have hrd : ∀ off, windowOff off → s.rd off = .next { s with rdata := s.readReg (regAt off) } :=
      fun off ho => s.rd_of_idle ho hr hv
    exact ⟨_, _, _, _, hrd 0x004 ⟨rfl, by decide⟩, hrd 0x008 ⟨rfl, by decide⟩, hrd 0x00C ⟨rfl, by decide⟩,
      hrd 0x05C ⟨rfl, by decide⟩, s.statusWord_high, threeBits_high s.irqen, bytePair_high s.ivlen s.keylen,
      bytePair_high s.rc4J s.rc4I⟩

end Sys2Proof.Machine

namespace Sys2Proof

/-! PROOFS. What an accepted command word is (30_encoding.md R104 to R106, R108). -/

/-- R104 to R106: the clauses of a legal command. -/
theorem Fields.wf_iff (f : Fields) :
    f.wf = true ↔ f.rsv = 0 ∧ f.opDefined = true ∧ (f.usesN = true ∨ f.n = 0) ∧ (f.usesM = true ∨ f.m = 0) := by
  simp [Fields.wf, and_assoc]

/-- R104 to R106: each way in which a field makes a command illegal. -/
theorem Fields.not_wf_of_illegal {f : Fields}
    (h : f.rsv ≠ 0 ∨ f.opDefined = false ∨ (f.n ≠ 0 ∧ f.usesN = false) ∨ (f.m ≠ 0 ∧ f.usesM = false)) :
    ¬ f.wf = true := by
  rw [Fields.wf_iff]
  rintro ⟨hrsv, hop, hn, hm⟩
  obtain hr | ho | ⟨hn0, hun⟩ | ⟨hm0, hum⟩ := h
  · exact hr hrsv
  · simp [ho] at hop
  · exact hn.elim (by simp [hun]) hn0
  · exact hm.elim (by simp [hum]) hm0

/-- R103: the rows of the opcode map stand at OP values that are not reserved, with the operands the column "uses" names. -/
theorem opTable_agrees_with_fields : ∀ r ∈ opTable,
    (Fields.mk r.op 0 0 0).opDefined = true ∧ (Fields.mk r.op 0 0 0).usesN = r.usesN ∧
      (Fields.mk r.op 0 0 0).usesM = r.usesM := by
  decide

/-- R103, R104: an OP value with a row in the opcode map is not reserved, and the row says which operands it uses. All three facts are
read from OP alone, so the other fields may hold anything. -/
theorem fields_of_findRow {f : Fields} {r : OpRow} (h : findRow f.op = some r) :
    f.opDefined = true ∧ f.usesN = r.usesN ∧ f.usesM = r.usesM := by
  have hop : r.op = f.op := by simpa using List.find?_some h
  have hrow := opTable_agrees_with_fields r (List.mem_of_find?_eq_some h)
  rw [hop] at hrow
  exact hrow

/-- R108: what the decoder has tested when it accepts a word, and the command it then gives. -/
theorem decode_eq_ok {w : Word} {i : Instr} (h : decode w = .ok i) :
    fieldRsv w = 0 ∧ ∃ r, findRow (fieldOp w) = some r ∧ (r.usesN = true ∨ fieldN w = 0) ∧
      (r.usesM = true ∨ fieldM w = 0) ∧ i = r.instr (fieldN w) (fieldM w) := by
  unfold decode at h
  split at h
  · cases h
  next hrsv =>
    split at h
    · cases h
    next r hrow =>
      split at h
      · cases h
      next hn =>
        split at h
        · cases h
        next hm =>
          refine ⟨not_not.mp hrsv, r, hrow, ?_, ?_, (Except.ok.inj h).symm⟩
          · simpa [or_iff_not_imp_left, not_imp_comm] using hn
          · simpa [or_iff_not_imp_left, not_imp_comm] using hm

/-- R108: a word the decoder accepts has the fields of a legal command. -/
theorem wf_of_decode_eq_ok {w : Word} {i : Instr} (h : decode w = .ok i) : (Fields.ofWord w).wf = true := by
  obtain ⟨hrsv, r, hrow, hn, hm, -⟩ := decode_eq_ok h
  obtain ⟨hop, hun, hum⟩ := fields_of_findRow (f := Fields.ofWord w) hrow
  rw [Fields.wf_iff, hun, hum]
  exact ⟨hrsv, hop, hn, hm⟩

end Sys2Proof

namespace Sys2Proof.Machine

/-! PROOFS. The statements of 30_encoding.md. -/

/-- Settles O4: of the cases of the engine's turn, a pending command rules out the idle one and an illegal field the one that runs a
decoded command; what is left completes with code 5. -/
theorem illegalWordCompletesWithCode5 : Obligations.IllegalWordCompletesWithCode5 := by
  intro s hv hill
  obtain ⟨hidle, -⟩ | ⟨-, i, hd, -⟩ | ⟨-, e, -, hturn⟩ := s.engineTurn_cases
  · simp [hv] at hidle
  · exact absurd (wf_of_decode_eq_ok hd) (Fields.not_wf_of_illegal hill)
  · exact ⟨_, hturn, rfl, rfl⟩

end Sys2Proof.Machine

namespace Sys2Proof.Machine

/-! PROOFS. The key schedules of AES (41_aes.md R146 to R148): what each word of W and of DW is. -/

/-- R146: Nk is at least 1, the key is no longer than the schedule, and the schedule fits the 60 words of W. -/
theorem aesSize_bounds {keylen : Byte} {z : AesSize} (h : aesSize keylen = some z) :
    0 < z.nk ∧ z.nk ≤ 4 * (z.nr.toNat + 1) ∧ z.nr.toNat ≤ 14 := by
  unfold aesSize at h
  split_ifs at h <;> cases h <;> decide

/-- R147: expansion appends to the words it starts from. -/
theorem prefix_extendSchedule (nk k : Nat) (ws : List Word) : ws <+: extendSchedule nk k ws := by
  induction k generalizing ws with
  | zero => exact List.prefix_rfl
  | succ k ih => exact (List.prefix_append ws _).trans (ih _)

/-- R147: `k` more words are `k` more words. -/
theorem length_extendSchedule (nk k : Nat) (ws : List Word) : (extendSchedule nk k ws).length = ws.length + k := by
  induction k generalizing ws with
  | zero => rfl
  | succ k ih =>
    rw [extendSchedule, ih, List.length_append, List.length_singleton]
    omega

/-- A word that stands in the starting list stands at the same place after expansion. -/
theorem getD_extendSchedule_of_lt {nk k i : Nat} {ws : List Word} (h : i < ws.length) :
    (extendSchedule nk k ws).getD i 0 = ws.getD i 0 := by
  obtain ⟨rest, hrest⟩ := prefix_extendSchedule nk k ws
  rw [← hrest, List.getD_append _ _ _ _ h]

/-- R147: every word that expansion appends is the next schedule word after those that stand before it. -/
theorem getD_extendSchedule_of_le {nk k i : Nat} {ws : List Word} (hle : ws.length ≤ i) (hlt : i < ws.length + k) :
    (extendSchedule nk k ws).getD i 0 = nextScheduleWord nk ((extendSchedule nk k ws).take i) := by
  induction k generalizing ws with
  | zero => omega
  | succ k ih =>
    have hlen : (ws ++ [nextScheduleWord nk ws]).length = ws.length + 1 := by simp
    obtain rfl | hlt' := hle.eq_or_lt
    · have htake : (extendSchedule nk (k + 1) ws).take ws.length = ws :=
        (List.prefix_iff_eq_take.mp (prefix_extendSchedule nk (k + 1) ws)).symm
      rw [htake, extendSchedule, getD_extendSchedule_of_lt (by omega)]
      simp
    · exact ih (by omega) (by omega)

/-- R147's recurrence, over the list the first `i` words of which are taken as the words so far. -/
theorem nextScheduleWord_take {nk i : Nat} {ws : List Word} (hnk : 0 < nk) (hle : nk ≤ i) (hi : i ≤ ws.length) :
    nextScheduleWord nk (ws.take i) = ws.getD (i - nk) 0 ^^^
      (if i % nk = 0 then subWord (rotWord (ws.getD (i - 1) 0)) ^^^ rcon (i / nk)
       else if nk = 8 ∧ i % nk = 4 then subWord (ws.getD (i - 1) 0)
       else ws.getD (i - 1) 0) := by
  have hget : ∀ j, j < i → (ws.take i).getD j 0 = ws.getD j 0 := fun j hj => by
    simp [List.getD_eq_getElem?_getD, List.getElem?_take_of_lt hj]
  simp only [nextScheduleWord, List.length_take_of_le hi, hget (i - nk) (by omega), hget (i - 1) (by omega)]

/-- R147: there are Nk key words. -/
@[simp] theorem length_keyWords (nk : Nat) (key : Vector Word 8) : (keyWords nk key).length = nk := by
  simp [keyWords]

/-- R147: key word `i` is packed from key bytes 4i to 4i + 3. -/
theorem getD_keyWords {nk i : Nat} (key : Vector Word 8) (h : i < nk) :
    (keyWords nk key).getD i 0 =
      packBytes (keyByte key (4 * i)) (keyByte key (4 * i + 1)) (keyByte key (4 * i + 2)) (keyByte key (4 * i + 3)) := by
  simp [keyWords, h]

section KeySchedule

variable {keylen : Byte} {z : AesSize} {i n c : Nat}

/-- R147: W holds the words of the expansion in their order. -/
theorem schedWord_expandKey (z : AesSize) (key : Vector Word 8) (h : i < 60) : schedWord (expandKey z key) i =
    (extendSchedule z.nk (4 * (z.nr.toNat + 1) - z.nk) (keyWords z.nk key)).getD i 0 :=
  getD_tabulate 60 _ i 0 h

/-- R147: the first Nk words of W are the key's. -/
theorem schedWord_expandKey_of_lt_nk (hz : aesSize keylen = some z) (key : Vector Word 8) (hi : i < z.nk) :
    schedWord (expandKey z key) i =
      packBytes (keyByte key (4 * i)) (keyByte key (4 * i + 1)) (keyByte key (4 * i + 2)) (keyByte key (4 * i + 3)) := by
  obtain ⟨-, hnk, hnr⟩ := aesSize_bounds hz
  rw [schedWord_expandKey z key (by omega), getD_extendSchedule_of_lt (by simpa using hi), getD_keyWords key hi]

/-- R147: the recurrence for the other words of the schedule. -/
theorem schedWord_expandKey_of_nk_le (hz : aesSize keylen = some z) (key : Vector Word 8) (hle : z.nk ≤ i)
    (hi : i < 4 * (z.nr.toNat + 1)) :
    schedWord (expandKey z key) i = schedWord (expandKey z key) (i - z.nk) ^^^
      (if i % z.nk = 0 then subWord (rotWord (schedWord (expandKey z key) (i - 1))) ^^^ rcon (i / z.nk)
       else if z.nk = 8 ∧ i % z.nk = 4 then subWord (schedWord (expandKey z key) (i - 1))
       else schedWord (expandKey z key) (i - 1)) := by
  obtain ⟨h0, hnk, hnr⟩ := aesSize_bounds hz
  rw [schedWord_expandKey z key (by omega : i < 60), schedWord_expandKey z key (by omega : i - z.nk < 60),
    schedWord_expandKey z key (by omega : i - 1 < 60),
    getD_extendSchedule_of_le (by simpa using hle) (by rw [length_keyWords]; omega),
    nextScheduleWord_take h0 hle (by rw [length_extendSchedule, length_keyWords]; omega)]

/-- R147: W is 0 above the schedule. -/
theorem schedWord_expandKey_above (hz : aesSize keylen = some z) (key : Vector Word 8)
    (hle : 4 * (z.nr.toNat + 1) ≤ i) (hi : i < 60) : schedWord (expandKey z key) i = 0 := by
  obtain ⟨-, hnk, -⟩ := aesSize_bounds hz
  rw [schedWord_expandKey z key hi]
  exact List.getD_eq_default _ _ (by rw [length_extendSchedule, length_keyWords]; omega)

/-- R148: word c of round key n of the decryption schedule. -/
theorem schedWord_decSchedule {nr : Nat} (w : Vector Word 60) (hc : c < 4) (hn : n ≤ 14) :
    schedWord (decSchedule nr w) (4 * n + c) =
      if n = 0 ∨ n = nr then schedWord w (4 * n + c)
      else if n < nr then invMixColumn (schedWord w (4 * n + c))
      else 0 := by
  have hdiv : (4 * n + c) / 4 = n := by omega
  unfold decSchedule
  rw [schedWord, getD_tabulate 60 _ _ 0 (by omega), hdiv]

/-- R148: DW is 0 above the schedule. -/
theorem schedWord_decSchedule_above {nr : Nat} (w : Vector Word 60) (hle : 4 * (nr + 1) ≤ i) (hi : i < 60) :
    schedWord (decSchedule nr w) i = 0 := by
  rw [← Nat.div_add_mod i 4, schedWord_decSchedule w (Nat.mod_lt i (by decide)) (by omega), if_neg (by omega),
    if_neg (by omega)]

/-- R151: AES.KEYEXP with an accepted key length. -/
theorem exec_aesKeyexp_of_aesSize (s : State) (hz : aesSize s.keylen = some z) :
    exec .aesKeyexp s = .next (State.succeeded { s with
      w := expandKey z s.key, dw := decSchedule z.nr.toNat (expandKey z s.key),
      status := { s.status with aesNr := z.nr, aesRkv := true } }) := by
  show execAesKeyexp s = _
  rw [execAesKeyexp, hz]
  rfl

end KeySchedule

/-! PROOFS. The statements of 41_aes.md. -/

/-- Settles O26: AES.KEYEXP stores the two schedules, and each clause is the rule for one range of their words. -/
theorem aesKeyexpBuildsSchedules : Obligations.AesKeyexpBuildsSchedules := by
  intro s nk nr h
  have hz : aesSize s.keylen = some { nk := nk, nr := nr } := by
    obtain ⟨hk, rfl, rfl⟩ | ⟨hk, rfl, rfl⟩ | ⟨hk, rfl, rfl⟩ := h <;> rw [hk] <;> rfl
  obtain ⟨-, -, hnr : nr.toNat ≤ 14⟩ := aesSize_bounds hz
  refine ⟨_, exec_aesKeyexp_of_aesSize s hz, rfl, ?key, ?recurrence, ?above, ?outer, ?inner⟩
  case key => exact fun i hi => schedWord_expandKey_of_lt_nk hz s.key hi
  case recurrence => exact fun i hle hi => schedWord_expandKey_of_nk_le hz s.key hle hi
  case above =>
    exact fun i hle hi => ⟨schedWord_expandKey_above hz s.key hle hi, schedWord_decSchedule_above _ hle hi⟩
  case outer =>
    intro n c hc hn
    exact (schedWord_decSchedule _ hc (by omega)).trans (if_pos hn)
  case inner =>
    intro n c hc h1 hn
    have hinner : ¬(n = 0 ∨ n = nr.toNat) := by omega
    exact (schedWord_decSchedule _ hc (by omega)).trans ((if_neg hinner).trans (if_pos hn))

end Sys2Proof.Machine

namespace Sys2Proof.Machine

/-! PROOFS. STATUS and IRQEN as a host reads them at any time (10_state.md R24, R31, 20_memory.md R73). -/

/-- R73: with reset released a read of a register that is readable while a command is pending returns it, pending or not. -/
theorem State.rd_of_readableWhileBusy (s : State) {off : Nat} (ho : windowOff off) (hr : s.resetLine = false)
    (hb : (regAt off).readableWhileBusy = true) : s.rd off = .next { s with rdata := s.readReg (regAt off) } := by
  rw [s.rd_eq ho, s.hostRead_of_readable off hr (.inr hb)]

/-- R24: bits 1 to 3 of STATUS are DONE, ERR and OVR; no other field of the word reaches them. -/
theorem State.statusWord_irqFlags (s : State) :
    s.statusWord.getLsbD 1 = s.status.done ∧ s.statusWord.getLsbD 2 = s.status.err ∧
      s.statusWord.getLsbD 3 = s.status.ovr := by
  simp [State.statusWord, flagBit]

/-- R31: reading IRQEN as a word moves none of its three bits. -/
theorem irqenWord_getLsbD (a : BitVec 3) {k : Nat} (hk : k < 3) : (a.setWidth 32).getLsbD k = a.getLsbD k := by
  rw [BitVec.getLsbD_setWidth, decide_eq_true (hk.trans (by decide)), Bool.true_and]

/-! PROOFS. The statements of 60_exceptions.md. -/

/-- Settles O20: STATUS and IRQEN are readable whether a command is pending or not, and the bits read at the places R298 names are the
fields the output is made of. -/
theorem irqFollowsStatusAndEnables : Obligations.IrqFollowsStatusAndEnables := by
  refine ⟨rfl, fun s hr => ⟨s.statusWord, s.irqen.setWidth 32, ?status, ?irqen, ?formula⟩⟩
  case status => exact s.rd_of_readableWhileBusy ⟨rfl, by decide⟩ hr rfl
  case irqen => exact s.rd_of_readableWhileBusy ⟨rfl, by decide⟩ hr rfl
  case formula =>
    obtain ⟨hdone, herr, hovr⟩ := s.statusWord_irqFlags
    rw [hdone, herr, hovr, irqenWord_getLsbD _ (by decide), irqenWord_getLsbD _ (by decide),
      irqenWord_getLsbD _ (by decide), State.irq]

end Sys2Proof.Machine

namespace Sys2Proof.Machine

/-! PROOFS. The machine right after reset as a host reads it (70_reset_and_hazards.md R331). -/

/-- R331: an array that is 0 in every entry reads 0 at every index, in range or not. -/
theorem getD_replicate_zero (n k i : Nat) : (Vector.replicate n (0 : BitVec k)).getD i 0 = 0 := by
  by_cases h : i < n <;> simp [Vector.getD, h]

/-- R331: after reset every register but ID reads 0; arrays by their entries, the others by their fields. -/
theorem readReg_reset {r : Reg} (h : r ≠ .id) : State.reset.readReg r = 0 := by
  cases r with
  | id => exact absurd rfl h
  | key i | blk i | nonce i | x i | xi i | w i | dw i => exact getD_replicate_zero _ _ i
  | sklo n => exact congrArg (BitVec.setWidth 32) (getD_replicate_zero 16 48 (n - 1))
  | skhi n => exact congrArg (fun k : Subkey => (k.extractLsb' 32 16).setWidth 32) (getD_replicate_zero 16 48 (n - 1))
  | rs i => exact congrArg (BitVec.setWidth 32) (getD_replicate_zero 256 8 i)
  | _ => rfl

/-- R47: ID stands at offset 0x060 only. -/
theorem regAt_ne_id {off : Nat} (h : off ≠ 0x060) : regAt off ≠ .id := by
  intro hr
  have hc := regAt_coveredBy off
  rw [hr] at hc
  exact h hc

/-! PROOFS. The statements of 70_reset_and_hazards.md. -/

/-- Settles O21: the reset machine is idle, so a read returns the register at its offset, and that is 0 unless it is ID. -/
theorem resetLeavesTheStatedValues : Obligations.ResetLeavesTheStatedValues := by
  refine ⟨rfl, rfl, rfl, fun off ho => ?_⟩
  rw [State.reset.rd_of_idle ho rfl rfl]
  by_cases hid : off = 0x060
  · subst hid
    rfl
  · rw [readReg_reset (regAt_ne_id hid), if_neg hid]

end Sys2Proof.Machine

namespace Sys2Proof

/-! PROOFS. The decoder against the encoder (30_encoding.md R101, R103, R108). -/

/-- R101: the fields of a command's word are its OP, N and M, and RSV is 0. -/
@[simp] theorem fieldOp_commandWord (op n m : Byte) : fieldOp (commandWord op n m) = op :=
  congrArg Fields.op (Laws.EncodeLegal.fields_commandWord op n m)

@[simp] theorem fieldN_commandWord (op n m : Byte) : fieldN (commandWord op n m) = n :=
  congrArg Fields.n (Laws.EncodeLegal.fields_commandWord op n m)

@[simp] theorem fieldM_commandWord (op n m : Byte) : fieldM (commandWord op n m) = m :=
  congrArg Fields.m (Laws.EncodeLegal.fields_commandWord op n m)

@[simp] theorem fieldRsv_commandWord (op n m : Byte) : fieldRsv (commandWord op n m) = 0 :=
  congrArg Fields.rsv (Laws.EncodeLegal.fields_commandWord op n m)

/-- R101: a word whose RSV is 0 is made of its other three fields. -/
theorem commandWord_fields {w : Word} (h : fieldRsv w = 0) : commandWord (fieldOp w) (fieldN w) (fieldM w) = w := by
  have hhigh : ∀ k, k < 8 → w.getLsbD (24 + k) = false := fun k hk => by
    simpa [fieldRsv, hk] using congrArg (fun b : Byte => b.getLsbD k) h
  apply BitVec.eq_of_getLsbD_eq
  intro i hi
  by_cases h24 : 24 ≤ i
  · obtain ⟨k, rfl⟩ := Nat.exists_eq_add_of_le h24
    have hk : k < 8 := by omega
    rw [hhigh k hk]
    interval_cases k <;> simp [commandWord, fieldOp, fieldN, fieldM]
  · interval_cases i <;> simp [commandWord, fieldOp, fieldN, fieldM]

/-- R108: the decoder accepts a word with RSV 0, a row for its OP and no unused operand. -/
theorem decode_of_row {w : Word} {r : OpRow} (hrsv : fieldRsv w = 0) (hrow : findRow (fieldOp w) = some r)
    (hn : r.usesN = true ∨ fieldN w = 0) (hm : r.usesM = true ∨ fieldM w = 0) :
    decode w = .ok (r.instr (fieldN w) (fieldM w)) := by
  have hn' : ¬(fieldN w ≠ 0 ∧ r.usesN = false) := fun ⟨h0, hu⟩ => hn.elim (by simp [hu]) h0
  have hm' : ¬(fieldM w ≠ 0 ∧ r.usesM = false) := fun ⟨h0, hu⟩ => hm.elim (by simp [hu]) h0
  rw [decode, if_neg (not_not.mpr hrsv), hrow]
  exact (if_neg hn').trans (if_neg hm')

/-- R103, R108: decoding the word made of a row's OP and of operands the row uses. -/
theorem decode_commandWord {op n m : Byte} {r : OpRow} {i : Instr} (hrow : findRow op = some r)
    (hn : r.usesN = true ∨ n = 0) (hm : r.usesM = true ∨ m = 0) (hi : r.instr n m = i) :
    decode (commandWord op n m) = .ok i := by
  subst hi
  simpa using decode_of_row (w := commandWord op n m) (r := r) (by simp) (by simpa) (by simpa) (by simpa)

/-- R103: the word of a row's command has the row's OP and the operands the row uses. -/
theorem encode_row (n m : Byte) : ∀ r ∈ opTable, encode (r.instr n m) =
    commandWord r.op (if r.usesN then n else 0) (if r.usesM then m else 0) :=
  List.map_inj_left.mp rfl

/-- R103, R104: an OP value that is not reserved has a row. -/
theorem findRow_isSome : ∀ op : Byte, (Fields.mk op 0 0 0).opDefined = true → (findRow op).isSome = true := by
  decide +kernel

/-- R104 to R106, R108: the decoder accepts every word whose fields are legal. -/
theorem decode_of_wf {w : Word} (h : (Fields.ofWord w).wf = true) : ∃ i, decode w = .ok i := by
  obtain ⟨hrsv, hop, hn, hm⟩ := (Fields.wf_iff _).mp h
  obtain ⟨r, hrow⟩ := Option.isSome_iff_exists.mp (findRow_isSome (fieldOp w) hop)
  obtain ⟨-, hun, hum⟩ := fields_of_findRow (f := Fields.ofWord w) hrow
  rw [hun] at hn
  rw [hum] at hm
  exact ⟨_, decode_of_row hrsv hrow hn hm⟩

/-- R108: a word the decoder accepts is the word of the command it gives. -/
theorem encode_of_decode {w : Word} {i : Instr} (h : decode w = .ok i) : encode i = w := by
  obtain ⟨hrsv, r, hrow, hn, hm, rfl⟩ := decode_eq_ok h
  have hop : r.op = fieldOp w := by simpa using List.find?_some hrow
  have hN : (if r.usesN then fieldN w else 0) = fieldN w := ite_eq_left_iff.mpr fun hu => (hn.resolve_left hu).symm
  have hM : (if r.usesM then fieldM w else 0) = fieldM w := ite_eq_left_iff.mpr fun hu => (hm.resolve_left hu).symm
  rw [encode_row _ _ r (List.mem_of_find?_eq_some hrow), hN, hM, hop, commandWord_fields hrsv]

/-! PROOFS. The assembler (30_encoding.md R109). -/

/-- R103: how many operands a row's command takes. -/
def OpRow.arity (r : OpRow) : Nat := r.usesN.toNat + r.usesM.toNat

/-- R103, R109: the table of mnemonics agrees with the opcode map. -/
theorem arities_eq_map_opTable : SourceLine.arities = opTable.map fun r => (r.name, r.arity) := rfl

/-- R103: no two rows have the same mnemonic. -/
theorem opTable_names_nodup : (opTable.map OpRow.name).Nodup := by decide

/-- R103: a row uses no operand, N only, or both. -/
theorem opTable_uses : ∀ r ∈ opTable,
    (r.usesN = false ∧ r.usesM = false) ∨ (r.usesN = true ∧ r.usesM = false) ∨ (r.usesN = true ∧ r.usesM = true) := by
  decide

/-- R109: the row of a mnemonic. -/
theorem find?_name_eq_some_iff {name : String} {r : OpRow} :
    opTable.find? (fun r => r.name == name) = some r ↔ r ∈ opTable ∧ r.name = name := by
  refine ⟨fun h => ⟨List.mem_of_find?_eq_some h, by simpa using List.find?_some h⟩, fun ⟨hr, hname⟩ => ?_⟩
  obtain ⟨q, hq⟩ : ∃ q, opTable.find? (fun r => r.name == name) = some q :=
    Option.isSome_iff_exists.mp (List.find?_isSome.mpr ⟨r, hr, by simpa using hname⟩)
  have hqname : q.name = name := by simpa using List.find?_some hq
  rw [hq, List.inj_on_of_nodup_map opTable_names_nodup (List.mem_of_find?_eq_some hq) hr (hqname.trans hname.symm)]

/-- R109: a line is well-formed when its mnemonic's row takes as many operands as it has and each is in 0 to 255. -/
theorem SourceLine.wf_iff (l : SourceLine) :
    l.wf = true ↔ (∃ r, opTable.find? (fun r => r.name == l.mnemonic) = some r ∧ r.arity = l.operands.length) ∧
      ∀ n ∈ l.operands, n ≤ 255 := by
  simp only [SourceLine.wf, arities_eq_map_opTable, find?_name_eq_some_iff, Bool.and_eq_true, List.contains_iff_mem,
    List.mem_map, Prod.mk.injEq, List.all_eq_true, decide_eq_true_eq, and_assoc]

/-- R109: the command of a row with its operands in the order N, M, an absent one being 0. -/
def OpRow.command (r : OpRow) (ns : List Nat) : Instr :=
  r.instr (BitVec.ofNat 8 (ns.getD 0 0)) (BitVec.ofNat 8 (ns.getD 1 0))

/-- R109: the assembler accepts a line exactly as its row's command, when the row takes that many operands and each is in 0 to 255. -/
theorem assemble_eq_some_iff (l : SourceLine) (i : Instr) :
    assemble l = some i ↔ ∃ r, opTable.find? (fun r => r.name == l.mnemonic) = some r ∧
      (r.arity = l.operands.length ∧ ∀ n ∈ l.operands, n ≤ 255) ∧ r.command l.operands = i := by
  obtain ⟨mnemonic, ns⟩ := l
  unfold assemble
  cases hrow : opTable.find? (fun r => r.name == mnemonic) with
  | none => simp
  | some r =>
    have huses := opTable_uses r (List.mem_of_find?_eq_some hrow)
    simp only [Option.some.injEq, exists_eq_left']
    match ns with
    | [] | [_] | [_, _] =>
      obtain ⟨hN, hM⟩ | ⟨hN, hM⟩ | ⟨hN, hM⟩ := huses <;> simp [OpRow.arity, OpRow.command, hN, hM]
    | _ :: _ :: _ :: _ =>
      have hle : r.arity ≤ 2 := Nat.add_le_add (Bool.toNat_le _) (Bool.toNat_le _)
      refine iff_of_false (by simp) fun ⟨⟨hlen, _⟩, _⟩ => ?_
      rw [List.length_cons, List.length_cons, List.length_cons] at hlen
      omega

/-! PROOFS. The statements of 30_encoding.md, decoding and assembling. -/

/-- Settles O1: each command's word is made of the OP of its row and the operands the row uses. The commands are grouped by those. -/
theorem decodeOfEncodeIsSelf : Obligations.DecodeOfEncodeIsSelf := by
  intro i
  cases i with
  | aesAddrk _ | aesAdddrk _ | aesEncrnd _ | aesDecrnd _ | gfXtime _ | aesSbox _ | aesInvsbox _ | desRound _
  | desFeistel _ | rc4Prga _ | ccQr _ => exact decode_commandWord rfl (.inl rfl) (.inr rfl) rfl
  | gfMul _ _ => exact decode_commandWord rfl (.inl rfl) (.inl rfl) rfl
  | _ => exact decode_commandWord rfl (.inr rfl) (.inr rfl) rfl

/-- Settles O2: both directions of acceptance, and the word read back from its fields. -/
theorem decodeAcceptsExactlyLegalWords : Obligations.DecodeAcceptsExactlyLegalWords :=
  fun _ => ⟨⟨fun ⟨_, h⟩ => wf_of_decode_eq_ok h, decode_of_wf⟩, fun _ => encode_of_decode⟩

/-- Settles O5: both sides ask for the same row, and the operands stand in N and M because an operand the row does not use is absent. -/
theorem assemblerAcceptsExactlyWellFormedLines : Obligations.AssemblerAcceptsExactlyWellFormedLines := by
  intro l
  refine ⟨?_, fun i h => ?_⟩
  · rw [Bool.eq_iff_iff, Option.isSome_iff_exists, l.wf_iff]
    simp only [assemble_eq_some_iff]
    constructor
    · rintro ⟨-, r, hrow, ⟨hlen, hle⟩, -⟩
      exact ⟨⟨r, hrow, hlen⟩, hle⟩
    · rintro ⟨⟨r, hrow, hlen⟩, hle⟩
      exact ⟨_, r, hrow, ⟨hlen, hle⟩, rfl⟩
  · obtain ⟨r, hrow, ⟨hlen, -⟩, rfl⟩ := (assemble_eq_some_iff l i).mp h
    have hr := List.mem_of_find?_eq_some hrow
    rw [OpRow.command, encode_row _ _ r hr, fieldN_commandWord, fieldM_commandWord]
    obtain ⟨hN, hM⟩ | ⟨hN, hM⟩ | ⟨hN, hM⟩ := opTable_uses r hr <;> simp only [OpRow.arity, hN, hM] at hlen ⊢
    · have h0 : l.operands = [] := List.length_eq_zero_iff.mp hlen.symm
      simp [h0]
    · obtain ⟨n, h1⟩ := List.length_eq_one_iff.mp hlen.symm
      simp [h1]
    · simp

/-- Settles O3: each word against its command or the reason of R108 to reject it. -/
theorem specCommandWordsDecode : Obligations.SpecCommandWordsDecode := by
  unfold Obligations.SpecCommandWordsDecode
  decide

end Sys2Proof

namespace Sys2Proof.Machine

/-! PROOFS. A command's checks, one at a time (40_control.md R122). -/

/-- R122: a check that holds lets the command go on. -/
theorem State.require_of_true {s : State} {ok : Bool} {e : CmdError} {k : Result} (h : ok = true) :
    s.require ok e k = k := by
  rw [h, State.require_true]

/-- R122: a check that fails ends the command with its error. -/
theorem State.require_of_false {s : State} {ok : Bool} {e : CmdError} {k : Result} (h : ok = false) :
    s.require ok e k = .next (s.failedWith e.code) := by
  rw [h, State.require_false]

/-! PROOFS. The bytes of a word (00_scope.md R14). -/

/-- R14: two words with the same four bytes are equal. -/
theorem eq_of_laneByte_eq {w v : Word} (h : ∀ k, k < 4 → laneByte w k = laneByte v k) : w = v := by
  rw [← packBytes_laneByte w, ← packBytes_laneByte v, h 0 (by decide), h 1 (by decide), h 2 (by decide), h 3 (by decide)]

/-- R14: bit `i` of byte `k` of a word. -/
theorem getLsbD_laneByte (w : Word) {k i : Nat} (hk : k < 4) (hi : i < 8) :
    (laneByte w k).getLsbD i = w.getLsbD (24 - 8 * k + i) := by
  rw [laneByte, BitVec.getLsbD_extractLsb', decide_eq_true hi, Bool.true_and, Nat.mod_eq_of_lt hk]

@[simp] theorem laneByte_zero (k : Nat) : laneByte 0 k = 0 := by
  simp [laneByte]

@[simp] theorem laneByte_or (w v : Word) (k : Nat) : laneByte (w ||| v) k = laneByte w k ||| laneByte v k :=
  BitVec.extractLsb'_or

/-- R14: a byte at the place of byte `t` of a word, and 0 elsewhere. -/
theorem laneByte_byteAt (b : Byte) {t k : Nat} (ht : t < 4) (hk : k < 4) :
    laneByte (b.setWidth 32 <<< (24 - 8 * t)) k = if k = t then b else 0 := by
  apply BitVec.eq_of_getLsbD_eq
  intro i hi
  rw [getLsbD_laneByte _ hk hi, BitVec.getLsbD_shiftLeft, BitVec.getLsbD_setWidth]
  obtain hlt | rfl | hgt := Nat.lt_trichotomy k t
  · have hhigh : b.getLsbD (24 - 8 * k + i - (24 - 8 * t)) = false := BitVec.getLsbD_of_ge _ _ (by omega)
    simp [hhigh, hlt.ne]
  · simp [show 24 - 8 * k + i < 32 by omega, show i < 32 by omega]
  · simp [show 24 - 8 * k + i < 24 - 8 * t by omega, hgt.ne']

/-- R14: moving a word down by whole bytes moves byte `k` to the place of byte `k + a`. -/
theorem laneByte_ushiftRight (w : Word) {a k : Nat} (hk : k < 4) :
    laneByte (w >>> (8 * a)) k = if a ≤ k then laneByte w (k - a) else 0 := by
  apply BitVec.eq_of_getLsbD_eq
  intro i hi
  rw [getLsbD_laneByte _ hk hi, BitVec.getLsbD_ushiftRight]
  by_cases h : a ≤ k
  · rw [if_pos h, getLsbD_laneByte _ (by omega) hi]
    congr 1
    omega
  · rw [if_neg h, BitVec.getLsbD_of_ge _ _ (by omega)]
    exact BitVec.getLsbD_zero.symm

end Sys2Proof.Machine

namespace Sys2Proof.Machine

/-! PROOFS. RC4: RS stays a permutation (43_rc4.md R240). -/

/-- R240: RS holds each of 0..255 once. -/
def RsPermuted (rs : Vector Byte 256) : Prop := rs.toList.Perm ((List.range 256).map (BitVec.ofNat 8))

/-- R242: the identity that the KSA starts from. -/
theorem rsPermuted_identity : RsPermuted (tabulate 256 (BitVec.ofNat 8)) := by
  rw [RsPermuted, tabulate, Vector.toList_mk, List.toList_toArray]

/-- R242, R243: a swap of two entries keeps the permutation. -/
theorem RsPermuted.swap {rs : Vector Byte 256} (h : RsPermuted rs) (a b : Byte) : RsPermuted (rsSwap rs a b) :=
  (Vector.swap_perm a.isLt b.isLt).toList.trans h

/-- R242: the KSA swaps entries of the identity, so it builds a permutation. -/
theorem rsPermuted_ksaPermutation (key : Nat → Byte) (l : Nat) : RsPermuted (ksaPermutation key l) :=
  List.foldlRecOn (motive := fun st : Rc4 => RsPermuted st.rs) _ _ rsPermuted_identity fun _ h _ _ => h.swap _ _

/-- R243: PRGA steps swap entries. -/
theorem RsPermuted.iterate_prgaAdvance {st : Rc4} (h : RsPermuted st.rs) (k : Nat) :
    RsPermuted (prgaAdvance^[k] st).rs := by
  induction k generalizing st with
  | zero => exact h
  | succ k ih => exact ih (h.swap _ _)

/-! PROOFS. RC4: the state and the bytes of several PRGA steps (43_rc4.md R243, R245). -/

/-- R245: the RC4 state after `k` steps. -/
theorem prgaSteps_state (k t : Nat) (st : Rc4) (r : Word) : (prgaSteps k t st r).2 = prgaAdvance^[k] st := by
  induction k generalizing t st r with
  | zero => rfl
  | succ k ih => exact ih _ _ _

/-- R245: the bytes that `k` steps from step number `t` on add to the result. -/
theorem laneByte_prgaSteps {k t j : Nat} (st : Rc4) (r : Word) (hk : t + k ≤ 4) (hj : j < 4) :
    laneByte (prgaSteps k t st r).1 j =
      laneByte r j ||| (if t ≤ j ∧ j < t + k then prgaOutput (prgaAdvance^[j - t + 1] st) else 0) := by
  induction k generalizing t st r with
  | zero =>
    rw [if_neg (by omega)]
    exact BitVec.or_zero.symm
  | succ k ih =>
    rw [prgaSteps, ih _ _ (by omega), laneByte_or, laneByte_byteAt _ (by omega) hj, BitVec.or_assoc]
    congr 1
    obtain hlt | rfl | hgt := Nat.lt_trichotomy j t
    · simp [hlt.ne, show ¬t + 1 ≤ j by omega, show ¬t ≤ j by omega]
    · simp
    · have hsub : j - t = j - (t + 1) + 1 := by omega
      have hrange : t + 1 ≤ j ∧ j < t + 1 + k ↔ t ≤ j ∧ j < t + (k + 1) := by omega
      rw [if_neg hgt.ne', hsub, Function.iterate_succ_apply _ (j - (t + 1) + 1)]
      exact BitVec.zero_or.trans (if_congr hrange rfl rfl)

/-- R245: the result of RC4.PRGA, byte by byte. -/
theorem laneByte_prgaSteps_zero {k j : Nat} (st : Rc4) (hk : k ≤ 4) (hj : j < 4) :
    laneByte (prgaSteps k 0 st 0).1 j = if j < k then prgaOutput (prgaAdvance^[j + 1] st) else 0 := by
  rw [laneByte_prgaSteps st 0 (by omega) hj, laneByte_zero]
  exact BitVec.zero_or.trans (if_congr (by omega) rfl rfl)

/-- R245: the bytes of `a` steps and then of `b` more are the bytes of `a + b` steps. -/
theorem prgaSteps_add {a b : Nat} (st : Rc4) (h : a + b ≤ 4) :
    (prgaSteps (a + b) 0 st 0).1 =
      (prgaSteps a 0 st 0).1 ||| ((prgaSteps b 0 (prgaAdvance^[a] st) 0).1 >>> (8 * a)) := by
  apply eq_of_laneByte_eq
  intro j hj
  rw [laneByte_or, laneByte_ushiftRight _ hj, laneByte_prgaSteps_zero _ h hj, laneByte_prgaSteps_zero _ (by omega) hj]
  by_cases haj : a ≤ j
  · have hout : prgaAdvance^[j - a + 1] (prgaAdvance^[a] st) = prgaAdvance^[j + 1] st := by
      rw [← Function.iterate_add_apply, show j - a + 1 + a = j + 1 by omega]
    have hrange : j - a < b ↔ j < a + b := by omega
    rw [if_pos haj, laneByte_prgaSteps_zero _ (by omega) (by omega), hout, if_neg (by omega : ¬j < a)]
    simp [hrange]
  · simp [haj, show j < a by omega, show j < a + b by omega]

/-- R243, R245: the state after RC4.PRGA n. -/
def State.afterPrga (s : State) (n : Nat) : State :=
  { s.withRc4 (prgaAdvance^[n] s.rc4) with result := (prgaSteps n 0 s.rc4 0).1 }

/-- R245: RC4.PRGA n with RC4 keyed and n in 1..4. -/
theorem exec_rc4Prga {s : State} {n : Byte} (hr : s.status.rc4Rdy = true) (h1 : 1 ≤ n.toNat) (h4 : n.toNat ≤ 4) :
    exec (.rc4Prga n) s = .next (s.afterPrga n.toNat).succeeded := by
  have hn : prgaCountOk n = true := by simp [prgaCountOk, h1, h4]
  refine (State.require_of_true hr).trans ((State.require_of_true hn).trans ?_)
  rw [prgaSteps_state]
  rfl

/-! PROOFS. The statements of 43_rc4.md. -/

/-- Settles O43: the key length is accepted, and the KSA only swaps entries. -/
theorem rc4KsaBuildsPermutation : Obligations.Rc4KsaBuildsPermutation := by
  intro s h
  have hlen : rc4KeyLenOk s.keylen = true := by simpa [rc4KeyLenOk] using h
  exact ⟨_, State.require_of_true hlen, rfl, rsPermuted_ksaPermutation _ _⟩

/-- Settles O44: the state by iterating the step, the result byte by byte. -/
theorem rc4PrgaProducesKeystream : Obligations.Rc4PrgaProducesKeystream := by
  intro s n hr h1 h4
  exact ⟨_, exec_rc4Prga hr h1 h4, rfl, rfl, fun j hj => laneByte_prgaSteps_zero s.rc4 h4 hj⟩

/-- Settles O45: iterating `a` and then `b` steps is iterating `a + b`, and the second result's bytes follow the first's. -/
theorem rc4PrgaCountsCompose : Obligations.Rc4PrgaCountsCompose := by
  intro s a b hr ha hb hab
  have hadd : (a + b).toNat = a.toNat + b.toNat := by
    rw [BitVec.toNat_add, Nat.mod_eq_of_lt (by omega)]
  refine ⟨_, _, _, exec_rc4Prga hr ha (by omega), exec_rc4Prga hr hb (by omega),
    exec_rc4Prga hr (by omega) (by omega), ?state, ?bytes⟩
  case state =>
    rw [hadd, Nat.add_comm]
    exact (Function.iterate_add_apply prgaAdvance b.toNat a.toNat s.rc4).symm
  case bytes =>
    rw [hadd]
    exact prgaSteps_add s.rc4 hab

end Sys2Proof.Machine

namespace Sys2Proof.Machine

/-! PROOFS. What a command can do: fail by one of its checks, or have its effect and succeed (40_control.md R122, 60_exceptions.md R293). -/

/-- What a command that passes its checks writes before it completes. AES.KEYEXP reads the sizes of its key once more, since its check gives
them. -/
def State.effect (s : State) : Instr → State
  | .nop => s
  | .clear => s.zeroise
  | .aesKeyexp =>
    match aesSize s.keylen with
    | none => s
    | some z => { s with
        w := expandKey z s.key
        dw := decSchedule z.nr.toNat (expandKey z s.key)
        status := { s.status with aesNr := z.nr, aesRkv := true } }
  | .aesEncblk => s.withBlock (encryptBlock s.w s.nr s.blk)
  | .aesDecblk => s.withBlock (decryptBlock s.dw s.nr s.blk)
  | .aesAddrk n => s.withBlock (addRoundKey s.blk s.w n.toNat)
  | .aesSubbytes => s.withBlock (subBytes s.blk)
  | .aesShiftrows => s.withBlock (shiftRows s.blk)
  | .aesMixcols => s.withBlock (mixColumns s.blk)
  | .aesInvsubbytes => s.withBlock (invSubBytes s.blk)
  | .aesInvshiftrows => s.withBlock (invShiftRows s.blk)
  | .aesInvmixcols => s.withBlock (invMixColumns s.blk)
  | .aesAdddrk n => s.withBlock (addRoundKey s.blk s.dw n.toNat)
  | .aesEncrnd n => s.withBlock (encRound s.w s.blk n.toNat)
  | .aesEnclast => s.withBlock (encLast s.w s.nr s.blk)
  | .aesDecrnd n => s.withBlock (decRound s.dw s.blk n.toNat)
  | .aesDeclast => s.withBlock (decLast s.dw s.blk)
  | .gfMul a b => s.withByteResult (gmul a b)
  | .gfXtime a => s.withByteResult (xtime a)
  | .aesSbox a => s.withByteResult (sbox a)
  | .aesInvsbox a => s.withByteResult (invSbox a)
  | .desKeysched => { s with sk := desSubkeys (s.key[0] ++ s.key[1]), status := { s.status with desSkv := true } }
  | .desEncblk => s.desTransform encOrder
  | .desDecblk => s.desTransform decOrder
  | .desIp => s.withHalves (desInitial (desBlock s.blk))
  | .desRound n => s.withHalves (desRound s.sk s.halves n.toNat)
  | .desFp => { s with blk := withDesBlock s.blk (desFinal s.halves) }
  | .desFeistel n => { s with result := feistel s.desr (subkey s.sk n.toNat) }
  | .rc4Ksa => { s.withRc4 { i := 0, j := 0, rs := ksaPermutation (keyByte s.key) s.keylen.toNat } with
      status := { s.status with rc4Rdy := true } }
  | .rc4Prga n => s.afterPrga n.toNat
  | .ccInit => { s with
      x := chachaInit s.params.wordOrder s.key s.ctr s.nonce
      xi := chachaInit s.params.wordOrder s.key s.ctr s.nonce
      status := { s.status with ccInit := true } }
  | .ccQr g => s.withX (quarterRound s.x (qrGroup (Fin.ofNat 8 g.toNat)))
  | .ccDround => s.withX (doubleRound s.params.qrOrder s.x)
  | .ccBlock => s.withX (chachaBlock s.params s.x s.xi)
  | .ccFeedfwd => s.withX (addWords s.x s.xi)

/-- R291, R122, R293: every command fails with the code of an error, or has its effect and succeeds. The commands are grouped by the
number of their checks. -/
theorem exec_answers (i : Instr) (s : State) :
    Answers (exec i s) fun t => (∃ e : CmdError, t = s.failedWith e.code) ∨ t = (s.effect i).succeeded := by
  cases i with
  | aesKeyexp =>
    show Answers (execAesKeyexp s) fun t => _ ∨ t = State.succeeded (match aesSize s.keylen with | none => s | some z => _)
    unfold execAesKeyexp
    cases aesSize s.keylen with
    | none => exact ⟨_, rfl, .inl ⟨.invalidKeyLength, rfl⟩⟩
    | some z => exact answers_finish (.inr rfl)
  | rc4Prga n =>
    refine answers_require (fun _ => .inl ⟨_, rfl⟩) fun _ => answers_require (fun _ => .inl ⟨_, rfl⟩) fun _ => ?_
    rw [prgaSteps_state]
    exact answers_finish (.inr rfl)
  | nop | clear | aesSubbytes | aesShiftrows | aesMixcols | aesInvsubbytes | aesInvshiftrows | aesInvmixcols
  | gfMul _ _ | gfXtime _ | aesSbox _ | aesInvsbox _ | desIp | desFp | ccDround | ccBlock | ccFeedfwd =>
    exact answers_finish (.inr rfl)
  | aesEncblk | aesDecblk | aesEnclast | aesDeclast | desKeysched | desEncblk | desDecblk | rc4Ksa | ccQr _ =>
    exact answers_require (fun _ => .inl ⟨_, rfl⟩) fun _ => answers_finish (.inr rfl)
  | aesAddrk _ | aesAdddrk _ | aesEncrnd _ | aesDecrnd _ | desRound _ | desFeistel _ | ccInit =>
    exact answers_require (fun _ => .inl ⟨_, rfl⟩) fun _ => answers_require (fun _ => .inl ⟨_, rfl⟩) fun _ =>
      answers_finish (.inr rfl)

/-- The two outcomes of a command, for the next state it answers. -/
theorem exec_cases {i : Instr} {s t : State} (h : exec i s = .next t) :
    (∃ e : CmdError, t = s.failedWith e.code) ∨ t = (s.effect i).succeeded :=
  (exec_answers i s).of_next h

/-- R291: no error has the code 0, and none is above 5. -/
theorem CmdError.code_ne_zero (e : CmdError) : e.code ≠ 0 := by
  cases e <;> decide

theorem CmdError.code_toNat_le (e : CmdError) : e.code.toNat ≤ 5 := by
  cases e <;> decide

/-! PROOFS. What a command leaves as it was (10_state.md, the "State written" lines). Each lemma's first case names the commands that
write. -/

section Frame

variable {i : Instr} (s : State)

/-- R22, R31 and the model's own fields: no command's effect reaches them. AES.KEYEXP is split by its key's sizes. -/
theorem State.effect_outside : (s.effect i).cmd = s.cmd ∧ (s.effect i).irqen = s.irqen ∧ (s.effect i).params = s.params ∧
    (s.effect i).resetLine = s.resetLine ∧ (s.effect i).agenda = s.agenda ∧ (s.effect i).rdata = s.rdata ∧
    (s.effect i).draws = s.draws := by
  cases i with
  | aesKeyexp =>
    unfold State.effect
    cases aesSize s.keylen <;> exact ⟨rfl, rfl, rfl, rfl, rfl, rfl, rfl⟩
  | _ => exact ⟨rfl, rfl, rfl, rfl, rfl, rfl, rfl⟩

/-- R24, R23, R32, R34, R36, R38: what CLEAR alone writes. -/
theorem State.effect_of_ne_clear (h : i ≠ .clear) : (s.effect i).pend = s.pend ∧ (s.effect i).status.ovr = s.status.ovr ∧
    (s.effect i).key = s.key ∧ (s.effect i).nonce = s.nonce ∧ (s.effect i).keylen = s.keylen ∧
    (s.effect i).ivlen = s.ivlen ∧ (s.effect i).ctr = s.ctr := by
  cases i with
  | clear => exact absurd rfl h
  | aesKeyexp =>
    unfold State.effect
    cases aesSize s.keylen <;> exact ⟨rfl, rfl, rfl, rfl, rfl, rfl, rfl⟩
  | _ => exact ⟨rfl, rfl, rfl, rfl, rfl, rfl, rfl⟩

/-- R37: BLK. -/
theorem State.effect_blk (h : i.writesBlk = false) : (s.effect i).blk = s.blk := by
  cases i with
  | clear | aesEncblk | aesDecblk | aesAddrk _ | aesSubbytes | aesShiftrows | aesMixcols | aesInvsubbytes | aesInvshiftrows
  | aesInvmixcols | aesAdddrk _ | aesEncrnd _ | aesEnclast | aesDecrnd _ | aesDeclast | desEncblk | desDecblk | desFp =>
    cases h
  | aesKeyexp =>
    unfold State.effect
    cases aesSize s.keylen <;> rfl
  | _ => rfl

/-- R37: no DES command reaches BLK2 and BLK3. -/
theorem State.effect_blk_of_isDes (h : i.isDes = true) :
    (s.effect i).blk[2] = s.blk[2] ∧ (s.effect i).blk[3] = s.blk[3] := by
  cases i with
  | desKeysched | desEncblk | desDecblk | desIp | desRound _ | desFp | desFeistel _ => exact ⟨rfl, rfl⟩
  | _ => cases h

/-- R35: DESL and DESR. -/
theorem State.effect_halves (h : i.writesHalves = false) : (s.effect i).desl = s.desl ∧ (s.effect i).desr = s.desr := by
  cases i with
  | clear | desIp | desRound _ | desEncblk | desDecblk => cases h
  | aesKeyexp =>
    unfold State.effect
    cases aesSize s.keylen <;> exact ⟨rfl, rfl⟩
  | _ => exact ⟨rfl, rfl⟩

/-- R33: RESULT. -/
theorem State.effect_result (h : i.writesResult = false) : (s.effect i).result = s.result := by
  cases i with
  | clear | gfMul _ _ | gfXtime _ | aesSbox _ | aesInvsbox _ | desFeistel _ | rc4Prga _ => cases h
  | aesKeyexp =>
    unfold State.effect
    cases aesSize s.keylen <;> rfl
  | _ => rfl

/-- R41: X. -/
theorem State.effect_x (h : i.writesX = false) : (s.effect i).x = s.x := by
  cases i with
  | clear | ccInit | ccQr _ | ccDround | ccBlock | ccFeedfwd => cases h
  | aesKeyexp =>
    unfold State.effect
    cases aesSize s.keylen <;> rfl
  | _ => rfl

/-- R40, R46: RS and its indices. -/
theorem State.effect_rc4 (h : i.writesRc4 = false) :
    (s.effect i).rs = s.rs ∧ (s.effect i).rc4I = s.rc4I ∧ (s.effect i).rc4J = s.rc4J := by
  cases i with
  | clear | rc4Ksa | rc4Prga _ => cases h
  | aesKeyexp =>
    unfold State.effect
    cases aesSize s.keylen <;> exact ⟨rfl, rfl, rfl⟩
  | _ => exact ⟨rfl, rfl, rfl⟩

/-- R43, R44, R30, R29: the AES schedules, AES_NR and AES_RKV. -/
theorem State.effect_aesSchedules (hk : i ≠ .aesKeyexp) (hc : i ≠ .clear) :
    (s.effect i).w = s.w ∧ (s.effect i).dw = s.dw ∧ (s.effect i).status.aesNr = s.status.aesNr ∧
      (s.effect i).status.aesRkv = s.status.aesRkv := by
  cases i with
  | aesKeyexp => exact absurd rfl hk
  | clear => exact absurd rfl hc
  | _ => exact ⟨rfl, rfl, rfl, rfl⟩

/-- R45, R29: SK and DES_SKV. -/
theorem State.effect_desSubkeys (hk : i ≠ .desKeysched) (hc : i ≠ .clear) :
    (s.effect i).sk = s.sk ∧ (s.effect i).status.desSkv = s.status.desSkv := by
  cases i with
  | desKeysched => exact absurd rfl hk
  | clear => exact absurd rfl hc
  | aesKeyexp =>
    unfold State.effect
    cases aesSize s.keylen <;> exact ⟨rfl, rfl⟩
  | _ => exact ⟨rfl, rfl⟩

/-- R29: RC4_RDY. -/
theorem State.effect_rc4Rdy (hk : i ≠ .rc4Ksa) (hc : i ≠ .clear) :
    (s.effect i).status.rc4Rdy = s.status.rc4Rdy := by
  cases i with
  | rc4Ksa => exact absurd rfl hk
  | clear => exact absurd rfl hc
  | aesKeyexp =>
    unfold State.effect
    cases aesSize s.keylen <;> rfl
  | _ => rfl

/-- R42, R29: XI and CC_INIT. -/
theorem State.effect_ccInit (hk : i ≠ .ccInit) (hc : i ≠ .clear) :
    (s.effect i).xi = s.xi ∧ (s.effect i).status.ccInit = s.status.ccInit := by
  cases i with
  | ccInit => exact absurd rfl hk
  | clear => exact absurd rfl hc
  | aesKeyexp =>
    unfold State.effect
    cases aesSize s.keylen <;> exact ⟨rfl, rfl⟩
  | _ => exact ⟨rfl, rfl⟩

end Frame

/-! PROOFS. The statements about every command (60_exceptions.md R293, R294, 10_state.md). -/

/-- Settles O55: a command that succeeds has ERR = 0, so only R294's outcome is left. -/
theorem failedCommandsChangeOnlyStatus : Obligations.FailedCommandsChangeOnlyStatus := by
  intro i s t h herr
  obtain ⟨e, rfl⟩ | rfl := exec_cases h
  · exact ⟨rfl, e.code_ne_zero⟩
  · cases herr

/-- Settles O56: both outcomes are completions, and no effect reaches CMD, IRQEN or what is the model's own. -/
theorem everyCommandCompletes : Obligations.EveryCommandCompletes := by
  intro i s
  obtain ⟨t, h, ⟨e, rfl⟩ | rfl⟩ := exec_answers i s
  · exact ⟨_, h, rfl, fun _ => rfl, rfl, iff_of_true rfl e.code_ne_zero, e.code_toNat_le, rfl, rfl, fun _ => rfl, rfl, rfl,
      rfl, rfl, rfl⟩
  · obtain ⟨hcmd, hirqen, houtside⟩ := s.effect_outside (i := i)
    refine ⟨_, h, rfl, fun hc => ?word, rfl, by simp, by simp, hcmd, hirqen, fun hc => ?ovr, houtside⟩
    case word => rw [State.succeeded_pend, (s.effect_of_ne_clear hc).1]
    case ovr => exact (s.effect_of_ne_clear hc).2.1

/-- Settles O57: a failure changes STATUS only, and a success is the effect, clause by clause. -/
theorem commandsWriteOnlyTheirState : Obligations.CommandsWriteOnlyTheirState := by
  intro i s t h
  obtain ⟨e, rfl⟩ | rfl := exec_cases h
  · exact ⟨fun _ => ⟨rfl, rfl, rfl, rfl, rfl⟩, fun _ => rfl, fun _ => ⟨rfl, rfl⟩, fun _ => ⟨rfl, rfl⟩, fun _ => rfl,
      fun _ => rfl, fun _ => ⟨rfl, rfl, rfl⟩, fun _ _ => ⟨rfl, rfl, rfl, rfl⟩, fun _ _ => ⟨rfl, rfl⟩, fun _ _ => rfl,
      fun _ _ => ⟨rfl, rfl⟩⟩
  · exact ⟨fun hc => (s.effect_of_ne_clear hc).2.2, s.effect_blk, s.effect_blk_of_isDes, s.effect_halves, s.effect_result,
      s.effect_x, s.effect_rc4, s.effect_aesSchedules, s.effect_desSubkeys, s.effect_rc4Rdy, s.effect_ccInit⟩

/-! PROOFS. The statements about the checks (60_exceptions.md R291, R292). -/

/-- Settles O52: the length check of each schedule command; CC.INIT checks KEYLEN before IVLEN. -/
theorem scheduleCommandsRejectBadLengths : Obligations.ScheduleCommandsRejectBadLengths := by
  intro s
  refine ⟨fun h16 h24 h32 => ?aes, fun h8 => ?des, fun h16 h32 => ?rc4, fun h32 => ?key, fun h32 h12 => ?iv⟩
  case aes =>
    have hz : aesSize s.keylen = none := by rw [aesSize, if_neg h16, if_neg h24, if_neg h32]
    show execAesKeyexp s = _
    rw [execAesKeyexp, hz]
    rfl
  case des => exact State.require_of_false (e := .invalidKeyLength) (by simpa [desKeyLenOk] using h8)
  case rc4 =>
    have hlen : rc4KeyLenOk s.keylen = false := by
      rw [rc4KeyLenOk, beq_eq_false_iff_ne.mpr h16, beq_eq_false_iff_ne.mpr h32, Bool.or_self]
    exact State.require_of_false (e := .invalidKeyLength) hlen
  case key => exact State.require_of_false (e := .invalidKeyLength) (by simpa [ccKeyLenOk] using h32)
  case iv =>
    exact (State.require_of_true (by simpa [ccKeyLenOk] using h32)).trans
      (State.require_of_false (e := .invalidIvLength) (by simpa [ccIvLenOk] using h12))

/-- Settles O53: readiness is the first check of each of these commands. -/
theorem unreadyCommandsRaiseNotReady : Obligations.UnreadyCommandsRaiseNotReady := by
  intro s n
  refine ⟨fun h i hi => ?aes, fun h i hi => ?des, fun h => State.require_of_false (e := .notReady) h⟩
  case aes => fin_cases hi <;> exact State.require_of_false (e := .notReady) h
  case des => fin_cases hi <;> exact State.require_of_false (e := .notReady) h

/-- R292: a ready command fails on its operand. -/
theorem State.require_require_badOperand {s : State} {ready ok : Bool} {k : Result} (hr : ready = true) (hn : ok = false) :
    s.require ready .notReady (s.require ok .badOperand k) = .next (s.failedWith 4) :=
  (State.require_of_true hr).trans (State.require_of_false hn)

/-- Settles O54: the range of N that each command checks, negated. -/
theorem operandsOutOfRangeRaiseBadOperand : Obligations.OperandsOutOfRangeRaiseBadOperand := by
  intro s n
  refine ⟨fun h hn i hi => ?roundKey, fun h hn i hi => ?innerRound, fun h hn i hi => ?subkey, fun h hn => ?prga, fun hn => ?group⟩
  case roundKey =>
    have hok : roundKeyOk n s.nr = false := by simpa [roundKeyOk] using hn
    fin_cases hi <;> exact State.require_require_badOperand h hok
  case innerRound =>
    have hok : innerRoundOk n s.nr = false := by
      simp only [innerRoundOk, Bool.and_eq_false_iff, decide_eq_false_iff_not]
      omega
    fin_cases hi <;> exact State.require_require_badOperand h hok
  case subkey =>
    have hok : subkeyOk n = false := by
      simp only [subkeyOk, Bool.and_eq_false_iff, decide_eq_false_iff_not]
      omega
    fin_cases hi <;> exact State.require_require_badOperand h hok
  case prga =>
    have hok : prgaCountOk n = false := by
      simp only [prgaCountOk, Bool.and_eq_false_iff, decide_eq_false_iff_not]
      omega
    exact State.require_require_badOperand h hok
  case group =>
    have hok : groupOk n = false := by simpa [groupOk] using hn
    exact State.require_of_false (e := .badOperand) hok

/-! PROOFS. The statements of 40_control.md. -/

/-- Settles O24: NOP is completion alone (R123). -/
theorem nopOnlyCompletes : Obligations.NopOnlyCompletes := fun s => s.finish_eq

/-- R124: CLEAR, performed. -/
theorem exec_clear (s : State) : exec .clear s = .next { State.reset with
    cmd := s.cmd
    irqen := s.irqen
    status := { State.reset.status with done := true }
    params := s.params, resetLine := s.resetLine, agenda := s.agenda, rdata := s.rdata, draws := s.draws } := rfl

end Sys2Proof.Machine

namespace Sys2Proof.Machine

/-! PROOFS. Words made of smaller fields (10_state.md R24, R32, R40). -/

/-- R32, R40: two bytes in the low half of a register. -/
theorem bytePair_eq_append (a b : Byte) :
    ((a.setWidth 32 <<< 8) ||| b.setWidth 32 : Word) = (0 : BitVec 16) ++ a ++ b := by
  apply BitVec.eq_of_getLsbD_eq
  intro i hi
  rw [BitVec.getLsbD_append, BitVec.getLsbD_append]
  interval_cases i <;> simp

/-- R24, R23: bit 0 of STATUS is BUSY, which is PEND.v. -/
theorem State.statusWord_busy (s : State) : s.statusWord.getLsbD 0 = s.pend.valid := by
  simp [State.statusWord, flagBit, State.busy]

/-- R24, R29: bits 8 to 11 of STATUS are the ready flags. -/
theorem State.statusWord_readyFlags (s : State) :
    s.statusWord.getLsbD 8 = s.status.aesRkv ∧ s.statusWord.getLsbD 9 = s.status.desSkv ∧
      s.statusWord.getLsbD 10 = s.status.rc4Rdy ∧ s.statusWord.getLsbD 11 = s.status.ccInit := by
  simp [State.statusWord, flagBit]

/-- R24: bits 7:4 of STATUS are ERRCODE. -/
theorem State.statusWord_errcode (s : State) : s.statusWord.extractLsb' 4 4 = s.status.errcode := by
  apply BitVec.eq_of_getLsbD_eq
  intro i hi
  interval_cases i <;> simp [State.statusWord, flagBit]

/-- R24, R30: bits 15:12 of STATUS are the round count. -/
theorem State.statusWord_nr (s : State) : (s.statusWord.extractLsb' 12 4).toNat = s.nr := by
  have hbits : s.statusWord.extractLsb' 12 4 = (BitVec.ofNat 32 s.nr).setWidth 4 := by
    unfold State.statusWord
    generalize BitVec.ofNat 32 s.nr = n
    apply BitVec.eq_of_getLsbD_eq
    intro i hi
    interval_cases i <;> simp [flagBit]
  rw [hbits, State.nr]
  cases s.status.aesNr <;> rfl

/-! PROOFS. The register map read from the offset's side (10_state.md R47). -/

theorem regAt_key : ∀ i : Fin 8, regAt (0x020 + 4 * i.val) = .key i.val := by decide
theorem regAt_blk : ∀ i : Fin 4, regAt (0x040 + 4 * i.val) = .blk i.val := by decide
theorem regAt_nonce : ∀ i : Fin 3, regAt (0x050 + 4 * i.val) = .nonce i.val := by decide
theorem regAt_x : ∀ i : Fin 16, regAt (0x100 + 4 * i.val) = .x i.val := by decide
theorem regAt_xi : ∀ i : Fin 16, regAt (0x140 + 4 * i.val) = .xi i.val := by decide
theorem regAt_w : ∀ i : Fin 60, regAt (0x200 + 4 * i.val) = .w i.val := by decide
theorem regAt_sklo : ∀ i : Fin 16, regAt (0x300 + 8 * i.val) = .sklo (i.val + 1) := by decide
theorem regAt_skhi : ∀ i : Fin 16, regAt (0x304 + 8 * i.val) = .skhi (i.val + 1) := by decide
theorem regAt_rs : ∀ i : Fin 256, regAt (0x400 + 4 * i.val) = .rs i.val := by decide +kernel
theorem regAt_dw : ∀ i : Fin 60, regAt (0x800 + 4 * i.val) = .dw i.val := by decide

/-- R73: no offset but those of CMD, STATUS, IRQEN and ID is read for its value while a command is pending. -/
theorem regAt_not_readableWhileBusy {off : Nat} (h0 : off ≠ 0x000) (h4 : off ≠ 0x004) (h8 : off ≠ 0x008)
    (h60 : off ≠ 0x060) : (regAt off).readableWhileBusy = false := by
  have hc := regAt_coveredBy off
  generalize regAt off = r at hc
  cases r with
  | cmd => exact absurd hc h0
  | status => exact absurd hc h4
  | irqen => exact absurd hc h8
  | id => exact absurd hc h60
  | _ => rfl

/-- An index in range reads its entry. -/
theorem getD_eq_get {α : Type} {n : Nat} (v : Vector α n) (i : Fin n) (d : α) : v.getD i.val d = v[i] := by
  simp [Vector.getD]

/-- An index in range is written. -/
theorem setIfInBounds_eq_set {α : Type} {n : Nat} (v : Vector α n) (i : Fin n) (x : α) :
    v.setIfInBounds i.val x = v.set i.val x := by
  simp [Vector.setIfInBounds, Vector.set, Array.setIfInBounds]

/-- R45: SK[n] by the entry that holds it. -/
theorem subkey_succ (sk : Vector Subkey 16) (i : Fin 16) : subkey sk (i.val + 1) = sk[i] :=
  getD_eq_get sk i 0

/-! PROOFS. Host accesses to a register of the map (20_memory.md R73, R74). -/

section Idle

variable {s : State} {off : Nat} {r : Reg}

/-- R47: what an idle machine answers to a read of the offset of a register. -/
theorem State.idle.rd (h : s.idle) (ho : windowOff off) (hreg : regAt off = r) :
    s.rd off = .next { s with rdata := s.readReg r } := by
  rw [s.rd_of_idle ho h.2 h.1, hreg]

/-- R74: what an idle machine does on a write to the offset of a register. -/
theorem State.idle.wr (h : s.idle) (ho : windowOff off) (hreg : regAt off = r) (v : Word) :
    s.wr off v = .next (s.writeReg r v) := by
  rw [s.wr_eq v ho, s.hostWrite_of_idle off v h.2 h.1, hreg]

end Idle

/-- R28, R74: STATUS and IRQEN take a write whether or not a command is pending. -/
theorem State.wr_of_writableWhileBusy (s : State) {off : Nat} (v : Word) (ho : windowOff off) (hr : s.resetLine = false)
    (hw : (regAt off).writableWhileBusy = true) : s.wr off v = .next (s.writeReg (regAt off) v) := by
  rw [s.wr_eq v ho, State.hostWrite, hr, hw]
  simp

/-- R28: any other write is dropped while a command is pending. -/
theorem State.wr_of_busy (s : State) {off : Nat} (v : Word) (ho : windowOff off) (hr : s.resetLine = false)
    (hv : s.pend.valid = true) (hw : (regAt off).writableWhileBusy = false) :
    s.wr off v = .next { s with status := { s.status with ovr := true } } := by
  rw [s.wr_eq v ho, s.hostWrite_of_busy off v hr hv hw]
  rfl

/-- R121: the engine's turn performs a pending word that decodes. -/
theorem State.engineTurn_of_decode {s : State} {i : Instr} (hv : s.pend.valid = true) (hd : decode s.pend.word = .ok i) :
    s.engineTurn = exec i s.takePending := by
  rw [State.engineTurn, if_pos hv, State.engineStep, hd]

/-- R122: the engine's turn completes a pending word that does not decode with IllegalCommand. -/
theorem State.engineTurn_of_decode_error {s : State} {e : DecodeError} (hv : s.pend.valid = true)
    (hd : decode s.pend.word = .error e) : s.engineTurn = .next (s.takePending.failedWith 5) := by
  rw [State.engineTurn, if_pos hv, State.engineStep, hd]
  rfl

/-! PROOFS. The statements about host accesses (10_state.md, 20_memory.md, 40_control.md R120). -/

/-- Settles O13: STATUS is readable at any time, and each field stands at its place of the word. -/
theorem statusReadsItsFields : Obligations.StatusReadsItsFields := by
  intro s hr
  obtain ⟨hdone, herr, hovr⟩ := s.statusWord_irqFlags
  obtain ⟨haes, hdes, hrc4, hcc⟩ := s.statusWord_readyFlags
  refine ⟨s.statusWord, s.rd_of_readableWhileBusy ⟨rfl, by decide⟩ hr rfl, s.statusWord_busy, hdone, herr, hovr,
    s.statusWord_errcode, haes, hdes, hrc4, hcc, s.statusWord_nr.trans ?_, s.statusWord_high⟩
  unfold State.nr
  cases s.status.aesNr <;> rfl

/-- Settles O14: the register at each offset, and its write. -/
theorem writableRegistersStoreTheirFields : Obligations.WritableRegistersStoreTheirFields := by
  intro s v hr
  refine ⟨s.wr_of_writableWhileBusy v ⟨rfl, by decide⟩ hr rfl, fun hv => ?_⟩
  have h : s.idle := ⟨hv, hr⟩
  refine ⟨h.wr ⟨rfl, by decide⟩ rfl v, h.wr ⟨rfl, by decide⟩ rfl v, fun i => ?_, fun i => ?_, fun i => ?_, fun i => ?_⟩
  · rw [h.wr ⟨by omega, by omega⟩ (regAt_key i), State.writeReg, setIfInBounds_eq_set]
  · rw [h.wr ⟨by omega, by omega⟩ (regAt_blk i), State.writeReg, setIfInBounds_eq_set]
  · rw [h.wr ⟨by omega, by omega⟩ (regAt_nonce i), State.writeReg, setIfInBounds_eq_set]
  · rw [h.wr ⟨by omega, by omega⟩ (regAt_x i), State.writeReg, setIfInBounds_eq_set]

/-- Settles O16: the register at each offset, and what it reads as. -/
theorem readsReturnTheRegisterMap : Obligations.ReadsReturnTheRegisterMap := by
  intro s h
  refine ⟨h.rd ⟨rfl, by decide⟩ rfl, h.rd ⟨rfl, by decide⟩ rfl, ?len, h.rd ⟨rfl, by decide⟩ rfl,
    h.rd ⟨rfl, by decide⟩ rfl,
    h.rd ⟨rfl, by decide⟩ rfl, h.rd ⟨rfl, by decide⟩ rfl, fun i => ?key, fun i => ?blk, fun i => ?nonce, ?rc4ij,
    h.rd ⟨rfl, by decide⟩ rfl, fun i => ?x, fun i => ?xi, fun i => ?w, fun i => ?sklo, fun i => ?skhi, fun i => ?rs,
    fun i => ?dw⟩
  case len => rw [h.rd (r := .len) ⟨rfl, by decide⟩ rfl, State.readReg, bytePair_eq_append]
  case rc4ij => rw [h.rd (r := .rc4ij) ⟨rfl, by decide⟩ rfl, State.readReg, bytePair_eq_append]
  case key => rw [h.rd ⟨by omega, by omega⟩ (regAt_key i), State.readReg, getD_eq_get]
  case blk => rw [h.rd ⟨by omega, by omega⟩ (regAt_blk i), State.readReg, getD_eq_get]
  case nonce => rw [h.rd ⟨by omega, by omega⟩ (regAt_nonce i), State.readReg, getD_eq_get]
  case x => rw [h.rd ⟨by omega, by omega⟩ (regAt_x i), State.readReg, getD_eq_get]
  case xi => rw [h.rd ⟨by omega, by omega⟩ (regAt_xi i), State.readReg, getD_eq_get]
  case w => rw [h.rd ⟨by omega, by omega⟩ (regAt_w i), State.readReg, getD_eq_get]
  case sklo =>
    rw [h.rd ⟨by omega, by omega⟩ (regAt_sklo i), State.readReg, subkey_succ, BitVec.setWidth_eq_extractLsb' (by decide)]
  case skhi => rw [h.rd ⟨by omega, by omega⟩ (regAt_skhi i), State.readReg, subkey_succ]
  case rs => rw [h.rd ⟨by omega, by omega⟩ (regAt_rs i), State.readReg, getD_eq_get]
  case dw => rw [h.rd ⟨by omega, by omega⟩ (regAt_dw i), State.readReg, getD_eq_get]

/-- Settles O17: the four registers that are readable at any time; any other offset takes a draw. -/
theorem busyReadsReturnCurrentOrFreeValue : Obligations.BusyReadsReturnCurrentOrFreeValue := by
  intro s hv hr
  refine ⟨s.rd_of_readableWhileBusy ⟨rfl, by decide⟩ hr rfl, s.rd_of_readableWhileBusy ⟨rfl, by decide⟩ hr rfl,
    s.rd_of_readableWhileBusy ⟨rfl, by decide⟩ hr rfl, s.rd_of_readableWhileBusy ⟨rfl, by decide⟩ hr rfl, ?_⟩
  intro off ho h0 h4 h8 h60
  rw [s.rd_eq ho, State.hostRead, State.busy, hr, hv, regAt_not_readableWhileBusy h0 h4 h8 h60]
  rfl

/-- Settles O18: of the two kinds of access a read is the first, and its frame says the rest. -/
theorem readsHaveNoSideEffect : Obligations.ReadsHaveNoSideEffect := by
  intro s t a hop h
  obtain ⟨-, ⟨-, rfl⟩ | ⟨v, hw, -⟩⟩ := State.hostAccess_cases h
  · exact s.hostRead_frame a.off
  · rw [hop] at hw
    cases hw

/-- R336, R338, R29: the state that only commands write. -/
def State.sameSchedules (s t : State) : Prop :=
  t.w = s.w ∧ t.dw = s.dw ∧ t.sk = s.sk ∧ t.rs = s.rs ∧ t.rc4I = s.rc4I ∧ t.rc4J = s.rc4J ∧ t.xi = s.xi ∧
  t.desl = s.desl ∧ t.desr = s.desr ∧ t.result = s.result ∧ t.params = s.params ∧
  t.status.aesRkv = s.status.aesRkv ∧ t.status.desSkv = s.status.desSkv ∧ t.status.rc4Rdy = s.status.rc4Rdy ∧
  t.status.ccInit = s.status.ccInit ∧ t.status.aesNr = s.status.aesNr

/-- R336: no register a host may write is one of them. -/
theorem State.writeReg_sameSchedules (s : State) (r : Reg) (v : Word) : s.sameSchedules (s.writeReg r v) := by
  cases r <;> exact ⟨rfl, rfl, rfl, rfl, rfl, rfl, rfl, rfl, rfl, rfl, rfl, rfl, rfl, rfl, rfl, rfl⟩

/-- R336, R28: nor does a dropped or an ignored write reach them. -/
theorem State.hostWrite_sameSchedules (s : State) (off : Nat) (v : Word) : s.sameSchedules (s.hostWrite off v) := by
  obtain ⟨-, hs⟩ | ⟨-, -, -, hs⟩ | ⟨-, -, hs⟩ := s.hostWrite_cases off v <;> rw [hs]
  · exact ⟨rfl, rfl, rfl, rfl, rfl, rfl, rfl, rfl, rfl, rfl, rfl, rfl, rfl, rfl, rfl, rfl⟩
  · exact ⟨rfl, rfl, rfl, rfl, rfl, rfl, rfl, rfl, rfl, rfl, rfl, rfl, rfl, rfl, rfl, rfl⟩
  · exact s.writeReg_sameSchedules _ v

/-- Settles O19: a read changes only the read data, and a write one of the registers that a host may write. -/
theorem hostAccessesKeepSchedules : Obligations.HostAccessesKeepSchedules := by
  intro s t a h
  obtain ⟨-, ⟨-, rfl⟩ | ⟨v, -, rfl⟩⟩ := State.hostAccess_cases h
  · rw [State.hostRead_frame]
    exact ⟨rfl, rfl, rfl, rfl, rfl, rfl, rfl, rfl, rfl, rfl, rfl, rfl, rfl, rfl, rfl, rfl⟩
  · exact s.hostWrite_sameSchedules a.off v

/-- Settles O10: CMD is the register at offset 0, and it takes no write while a command is pending. -/
theorem issueTakesTheWord : Obligations.IssueTakesTheWord := fun s v hr =>
  ⟨fun hv => State.idle.wr ⟨hv, hr⟩ ⟨rfl, by decide⟩ rfl v, fun hv => s.wr_of_busy v ⟨rfl, by decide⟩ hr hv rfl⟩

/-- Settles O12: STATUS takes a write at any time, and the write is W1C. -/
theorem statusWriteClearsOnes : Obligations.StatusWriteClearsOnes := fun s v hr =>
  s.wr_of_writableWhileBusy v ⟨rfl, by decide⟩ hr rfl

/-- Settles O25: CLEAR performed; CLEAR issued to an idle machine and then performed; CLEAR dropped. -/
theorem clearDiffersFromResetInThree : Obligations.ClearDiffersFromResetInThree := by
  refine ⟨exec_clear, fun s h => ?issued, fun s hv hr => s.wr_of_busy 1 ⟨rfl, by decide⟩ hr hv rfl⟩
  case issued =>
    refine ⟨_, h.wr ⟨rfl, by decide⟩ rfl 1, ?_⟩
    have hturn : (s.issue 1).engineTurn = exec .clear (s.issue 1).takePending :=
      State.engineTurn_of_decode rfl (decodeOfEncodeIsSelf .clear)
    refine hturn.trans ((exec_clear _).trans ?_)
    simp [h.2, State.reset]

end Sys2Proof.Machine

namespace Sys2Proof.Machine

/-! PROOFS. One step by the event it takes (00_scope.md R5, R77). -/

/-- R77: with events to come, a step takes the first off the agenda. -/
theorem step_of_agenda_cons {s : State} {e : Event} {rest : List Event} (h : s.agenda = e :: rest) :
    step s = State.perform { s with agenda := rest } e := by
  rw [step, State.advance, h]

/-- R341: with none to come, a step is the engine's turn. -/
theorem step_of_agenda_nil {s : State} (h : s.agenda = []) : step s = s.engineTurn := by
  rw [step, State.advance, h]

/-- R121, R122, 93 part 1: the engine's turn always answers a next state. -/
theorem State.engineTurn_answers (s : State) : ∃ t, s.engineTurn = .next t := by
  obtain ⟨-, hs⟩ | ⟨-, i, -, hs⟩ | ⟨-, e, -, hs⟩ := s.engineTurn_cases
  · exact ⟨_, hs⟩
  · obtain ⟨t, ht, -⟩ := exec_answers i s.takePending
    exact ⟨t, hs.trans ht⟩
  · exact ⟨_, hs⟩

/-- R71, R72: a host access answers a next state exactly when it is legal. -/
theorem State.hostAccess_answers_iff (s : State) (a : Access) : (∃ t, s.hostAccess a = .next t) ↔ a.legal := by
  refine ⟨fun ⟨t, h⟩ => (State.hostAccess_cases h).1, fun h => ?_⟩
  rw [s.hostAccess_of_legal a h]
  cases a.op <;> exact ⟨_, rfl⟩

/-- R72, 93 part 1: an event answers a next state unless it is an illegal access. -/
theorem State.perform_answers_iff (s : State) (e : Event) :
    (∃ t, s.perform e = .next t) ↔ ∀ a, e = .access a → a.legal := by
  cases e with
  | access a =>
    rw [State.perform, s.hostAccess_answers_iff a]
    exact ⟨fun h _ he => Event.access.inj he ▸ h, fun h => h a rfl⟩
  | engine => exact iff_of_true s.engineTurn_answers nofun
  | assertReset | releaseReset => exact iff_of_true ⟨_, rfl⟩ nofun

/-! PROOFS. Several steps (30_encoding.md R110). -/

/-- A run of one step more begins with a step. -/
theorem runSteps_succ_of_step {s t : State} {k : Nat} (h : step s = .next t) : runSteps (k + 1) s = runSteps k t := by
  rw [runSteps, h]

/-- A run goes on where its first steps end. -/
theorem runSteps_add_of_runSteps {s t : State} {a b : Nat} (h : runSteps a s = .next t) :
    runSteps (a + b) s = runSteps b t := by
  induction a generalizing s with
  | zero =>
    rw [Nat.zero_add]
    exact congrArg (runSteps b) (Host.Outcome.next.inj h)
  | succ a ih =>
    rw [runSteps] at h
    rw [Nat.add_right_comm, runSteps]
    cases hs : step s with
    | next u =>
      rw [hs] at h
      exact ih h
    | fault f => cases f
    | refused r =>
      rw [hs] at h
      cases h

/-- What is not the engine's own: the events to come and the data of the last host read (log entries 1 and 4). -/
def State.withOutside (s : State) (agenda : List Event) (rdata : Word) : State := { s with agenda := agenda, rdata := rdata }

/-- The next state of an outcome, changed by `f`. -/
def mapNext (f : State → State) : Result → Result
  | .next t => .next (f t)
  | .fault r => .fault r
  | .refused r => .refused r

/-- A check looks at nothing outside the engine, if what follows it does not. -/
theorem State.require_withOutside {s : State} {ok : Bool} {e : CmdError} {k k' : Result} {agenda : List Event} {rdata : Word}
    (hk : k' = mapNext (·.withOutside agenda rdata) k) :
    (s.withOutside agenda rdata).require ok e k' = mapNext (·.withOutside agenda rdata) (s.require ok e k) := by
  cases ok with
  | false => rfl
  | true => exact hk

/-- R121: a command neither reads nor writes what is outside the engine. The commands are grouped by the number of their checks. -/
theorem exec_withOutside (i : Instr) (s : State) (agenda : List Event) (rdata : Word) :
    exec i (s.withOutside agenda rdata) = mapNext (·.withOutside agenda rdata) (exec i s) := by
  cases i with
  | aesKeyexp =>
    show execAesKeyexp (s.withOutside agenda rdata) = mapNext _ (execAesKeyexp s)
    unfold execAesKeyexp
    rw [show (s.withOutside agenda rdata).keylen = s.keylen from rfl]
    cases aesSize s.keylen <;> rfl
  | nop | clear | aesSubbytes | aesShiftrows | aesMixcols | aesInvsubbytes | aesInvshiftrows | aesInvmixcols
  | gfMul _ _ | gfXtime _ | aesSbox _ | aesInvsbox _ | desIp | desFp | ccDround | ccBlock | ccFeedfwd => rfl
  | aesEncblk | aesDecblk | aesEnclast | aesDeclast | desKeysched | desEncblk | desDecblk | rc4Ksa | ccQr _ =>
    exact State.require_withOutside rfl
  | aesAddrk _ | aesAdddrk _ | aesEncrnd _ | aesDecrnd _ | desRound _ | desFeistel _ | rc4Prga _ | ccInit =>
    exact State.require_withOutside (State.require_withOutside rfl)

/-- R110: a read of STATUS changes only the read data. -/
theorem step_status_read {s : State} {rest : List Event} {d : Word} (hr : s.resetLine = false) :
    step (s.withOutside (rdEvent 0x004 :: rest) d) = .next (s.withOutside rest s.statusWord) := by
  rw [step_of_agenda_cons (rest := rest) rfl]
  exact State.rd_of_readableWhileBusy (s.withOutside rest d) (off := 0x004) ⟨rfl, by decide⟩ hr rfl

/-- R110, R78: nor do more polls. -/
theorem runSteps_polls {s : State} {rest : List Event} (k : Nat) (d : Word) (hr : s.resetLine = false) :
    ∃ d', runSteps k (s.withOutside (List.replicate k (rdEvent 0x004) ++ rest) d) = .next (s.withOutside rest d') := by
  induction k generalizing d with
  | zero => exact ⟨d, rfl⟩
  | succ k ih =>
    rw [List.replicate_succ, List.cons_append, runSteps_succ_of_step (step_status_read hr)]
    exact ih _

/-- R110, R120: the write of a command's word to an idle engine. -/
theorem step_cmd_write {s : State} {v : Word} {rest : List Event} (h : s.idle) (ha : s.agenda = wrEvent 0x000 v :: rest) :
    step s = .next ((s.issue v).withOutside rest s.rdata) := by
  rw [step_of_agenda_cons ha]
  exact State.idle.wr (s := { s with agenda := rest }) (off := 0x000) h ⟨rfl, by decide⟩ rfl v

/-- R121: the engine performs a pending command as it would have before the polls. -/
theorem step_engine_of_exec {s u : State} {i : Instr} {rest : List Event} {d : Word} (hw : s.pend = { valid := true, word := encode i })
    (hx : exec i s.takePending = .next u) :
    step (s.withOutside (.engine :: rest) d) = .next (u.withOutside rest d) := by
  have hv : (s.withOutside rest d).pend.valid = true := congrArg Pend.valid hw
  have hd : decode (s.withOutside rest d).pend.word = .ok i :=
    (congrArg (fun p : Pend => decode p.word) hw).trans (decodeOfEncodeIsSelf i)
  calc step (s.withOutside (.engine :: rest) d)
      = (s.withOutside rest d).engineTurn := by
        rw [step_of_agenda_cons (rest := rest) rfl]
        rfl
    _ = exec i (s.takePending.withOutside rest d) := State.engineTurn_of_decode hv hd
    _ = .next (u.withOutside rest d) := by
      rw [exec_withOutside, hx]
      rfl

/-! PROOFS. The statements about stepping (40_control.md R121, 20_memory.md R77, R78). -/

/-- Settles O6: whose turn it is, and what the engine's turn does with the pending word. -/
theorem stepRunsDecodedCommand : Obligations.StepRunsDecodedCommand := by
  intro s hv
  exact ⟨fun i hd => ⟨fun ha => (step_of_agenda_nil ha).trans (State.engineTurn_of_decode hv hd),
      fun rest ha => (step_of_agenda_cons ha).trans (State.engineTurn_of_decode hv hd)⟩,
    fun e hd => ⟨fun ha => (step_of_agenda_nil ha).trans (State.engineTurn_of_decode_error hv hd),
      fun rest ha => (step_of_agenda_cons ha).trans (State.engineTurn_of_decode_error hv hd)⟩⟩

/-- Settles O7: the cases of a step, of an event and of the engine's turn. -/
theorem stepFollowsTheAgenda : Obligations.StepFollowsTheAgenda := by
  intro s
  refine ⟨fun e rest => step_of_agenda_cons, step_of_agenda_nil, fun a => rfl, fun hv => ?_⟩
  rw [State.perform, State.engineTurn, hv]
  rfl

/-- Settles O8: by the event the step takes; only a host access can be without a next state. -/
theorem stepStopsExactlyOnIllegalAccess : Obligations.StepStopsExactlyOnIllegalAccess := by
  intro s
  cases ha : s.agenda with
  | nil =>
    rw [step_of_agenda_nil ha]
    exact iff_of_true s.engineTurn_answers nofun
  | cons e rest =>
    rw [step_of_agenda_cons ha, State.perform_answers_iff]
    constructor
    · rintro h ⟨a, _, he, hill⟩
      exact hill (h a (List.cons.inj he).1)
    · rintro h a rfl
      exact by_contra fun hill => h ⟨a, rest, rfl, hill⟩

/-- Settles O9: the write of CMD issues the word, the polls change only the read data, the engine performs the command as it would have at
once, and the last read returns STATUS. -/
theorem cmdPseudoOperationCompletes : Obligations.CmdPseudoOperationCompletes := by
  intro s i k rest h ha
  obtain ⟨u, hu, hv, -, hdone, -, -, -, -, -, -, hreset, -⟩ := everyCommandCompletes i (s.issue (encode i)).takePending
  refine ⟨u, hu, hv, hdone, ?_⟩
  have hag : s.agenda = wrEvent 0x000 (encode i) ::
      (List.replicate k (rdEvent 0x004) ++ .engine :: rdEvent 0x004 :: rest) := by
    simpa [cmdEvents, pollEvents] using ha
  obtain ⟨d, hpolls⟩ := runSteps_polls (s := s.issue (encode i)) (rest := .engine :: rdEvent 0x004 :: rest) k s.rdata h.2
  rw [runSteps_succ_of_step (step_cmd_write h hag), runSteps_add_of_runSteps hpolls,
    runSteps_succ_of_step (step_engine_of_exec (s := s.issue (encode i)) rfl hu),
    runSteps_succ_of_step (step_status_read (hreset.trans h.2))]
  rfl

/-- Settles O22: the two edges of the reset line, and an access while it is asserted. -/
theorem resetEventRestoresResetState : Obligations.ResetEventRestoresResetState := by
  intro s
  refine ⟨fun rest => step_of_agenda_cons, fun rest => step_of_agenda_cons, fun hr off ho => ⟨fun v => ?_, ?_⟩⟩
  · rw [s.wr_eq v ho, State.hostWrite, if_pos hr]
  · rw [s.rd_eq ho, State.hostRead, if_pos hr]

/-- Settles O23: a platform step replaces one entry of the list, and a delivery changes the instances whose window holds the address. -/
theorem instancesAreIndependent : Obligations.InstancesAreIndependent := by
  refine ⟨fun p q k h => ?_, fun p addr op j i hj hout => ?_⟩
  · unfold platformStep at h
    cases hk : p[k]? with
    | none =>
      rw [hk] at h
      cases h
      exact ⟨rfl, fun _ _ => rfl⟩
    | some i =>
      rw [hk] at h
      cases hs : step i.state with
      | next t =>
        simp only [hs] at h
        cases h
        exact ⟨List.length_set, fun j hj => List.getElem?_set_ne (Ne.symm hj)⟩
      | fault f => cases f
      | refused r =>
        simp only [hs] at h
        cases h
  · have hnone : windowOffset i.place addr = none := if_neg (by omega)
    rw [deliver, List.getElem?_map, hj, Option.map_some, hnone]

end Sys2Proof.Machine

namespace Sys2Proof.Machine

/-! PROOFS. The invariant (10_state.md, 60_exceptions.md, 70_reset_and_hazards.md), update by update. -/

/-- Settles O58: after reset no flag is set and every schedule is 0. -/
theorem invariantHoldsAtReset : Obligations.InvariantHoldsAtReset where
  errIffCode := by decide
  codeRange := by decide
  pendingFresh := nofun
  pendEmpty _ := rfl
  resetIdle := nofun
  aesLoaded := nofun
  aesEmpty _ := ⟨rfl, rfl, rfl⟩
  desLoaded := nofun
  desEmpty _ := rfl
  rc4Loaded := nofun
  rc4Empty _ := ⟨rfl, rfl, rfl⟩
  ccLoaded := nofun
  ccEmpty _ := rfl

section Updates

variable {s : State}

/-- R330: reset gives the values of the reset machine; nothing is pending while it is asserted. -/
theorem State.assertReset_inv (s : State) : s.assertReset.Inv :=
  { invariantHoldsAtReset with resetIdle := fun _ => rfl, ccLoaded := nofun }

/-- R330: the release of reset. -/
theorem State.Inv.releaseReset (h : s.Inv) : s.releaseReset.Inv := { h with resetIdle := nofun }

/-- R73: a host read. -/
theorem State.Inv.hostRead (h : s.Inv) (off : Nat) : (s.hostRead off).Inv := by
  rw [State.hostRead_frame]
  exact { h with }

/-- R120: an issue, which comes with reset released. -/
theorem State.Inv.issue (h : s.Inv) (hr : s.resetLine = false) (v : Word) : (s.issue v).Inv :=
  { h with
    errIffCode := by simp [Status.issued]
    codeRange := by simp [Status.issued]
    pendingFresh := fun _ => ⟨rfl, rfl, rfl, rfl⟩
    pendEmpty := nofun
    resetIdle := fun hr' => absurd (hr.symm.trans hr') (by decide) }

/-- R24, R27: a W1C write of STATUS clears ERR and ERRCODE together. -/
theorem State.Inv.writeOneToClear (h : s.Inv) (v : Word) :
    State.Inv { s with status := s.status.writeOneToClear v } :=
  { h with
    errIffCode := by
      cases hv : v[2] with
      | true => simp [Status.writeOneToClear, hv]
      | false => simpa [Status.writeOneToClear, hv] using h.errIffCode
    codeRange := by
      cases hv : v[2] with
      | true => simp [Status.writeOneToClear, hv]
      | false => simpa [Status.writeOneToClear, hv] using h.codeRange
    pendingFresh := fun hp => by
      obtain ⟨hdone, herr, hcode, hcmd⟩ := h.pendingFresh hp
      exact ⟨by simp [Status.writeOneToClear, hdone], by simp [Status.writeOneToClear, herr],
        by simp [Status.writeOneToClear, hcode], hcmd⟩ }

/-- R74: a host write to a register; CMD takes one with reset released only. -/
theorem State.Inv.writeReg (h : s.Inv) (hr : s.resetLine = false) (r : Reg) (v : Word) : (s.writeReg r v).Inv := by
  cases r with
  | cmd => exact h.issue hr v
  | status => exact h.writeOneToClear v
  | irqen | len | ctr | key _ | blk _ | nonce _ | x _ => exact { h with }
  | _ => exact h

/-- R74, R28: a host write, performed, dropped or ignored. -/
theorem State.Inv.hostWrite (h : s.Inv) (off : Nat) (v : Word) : (s.hostWrite off v).Inv := by
  obtain ⟨-, hs⟩ | ⟨-, -, -, hs⟩ | ⟨hr, -, hs⟩ := s.hostWrite_cases off v <;> rw [hs]
  · exact h
  · exact { h with }
  · exact h.writeReg hr _ v

/-- R121: taking the pending command empties the slot. -/
theorem State.Inv.takePending (h : s.Inv) : s.takePending.Inv :=
  { h with pendingFresh := nofun, pendEmpty := fun _ => rfl, resetIdle := fun _ => rfl }

/-- R293, R291: completion of a command whose slot is empty, with an error or without one. -/
theorem State.Inv.failedWith (h : s.Inv) (hv : s.pend.valid = false) (e : CmdError) : (s.failedWith e.code).Inv :=
  { h with
    errIffCode := iff_of_true rfl e.code_ne_zero
    codeRange := e.code_toNat_le
    pendingFresh := nofun
    pendEmpty := fun _ => h.pendEmpty hv
    resetIdle := fun _ => rfl }

theorem State.Inv.succeeded (h : s.Inv) (hv : s.pend.valid = false) : s.succeeded.Inv :=
  { h with
    errIffCode := by simp
    codeRange := by simp
    pendingFresh := nofun
    pendEmpty := fun _ => h.pendEmpty hv
    resetIdle := fun _ => rfl }

/-- R124: CLEAR empties every schedule with its flag. -/
theorem State.Inv.zeroise (h : s.Inv) : s.zeroise.Inv where
  errIffCode := h.errIffCode
  codeRange := h.codeRange
  pendingFresh := nofun
  pendEmpty _ := rfl
  resetIdle _ := rfl
  aesLoaded := nofun
  aesEmpty _ := ⟨rfl, rfl, rfl⟩
  desLoaded := nofun
  desEmpty _ := rfl
  rc4Loaded := nofun
  rc4Empty _ := ⟨rfl, rfl, rfl⟩
  ccLoaded := nofun
  ccEmpty _ := rfl

/-- R245: RC4.PRGA swaps entries of RS; it has an effect with RC4 keyed only. -/
theorem State.Inv.afterPrga (h : s.Inv) (hr : s.status.rc4Rdy = true) (n : Nat) : (s.afterPrga n).Inv :=
  { h with
    rc4Loaded := fun _ => RsPermuted.iterate_prgaAdvance (st := s.rc4) (h.rc4Loaded hr) n
    rc4Empty := fun hr' => absurd (hr.symm.trans hr') (by decide) }

/-- R151, R221, R244, R271: a schedule command sets its flag and builds its schedule; the other commands but CLEAR and RC4.PRGA write
nothing of which the invariant speaks. -/
theorem State.Inv.effect (h : s.Inv) {i : Instr} (hr : ∀ n, i = .rc4Prga n → s.status.rc4Rdy = true) : (s.effect i).Inv := by
  cases i with
  | clear => exact h.zeroise
  | rc4Prga n => exact h.afterPrga (hr n rfl) n.toNat
  | aesKeyexp =>
    unfold State.effect
    cases hz : aesSize s.keylen with
    | none => exact h
    | some z => exact { h with aesLoaded := fun _ => ⟨s.keylen, s.key, z, hz, rfl, rfl, rfl⟩, aesEmpty := nofun }
  | desKeysched => exact { h with desLoaded := fun _ => ⟨_, rfl⟩, desEmpty := nofun }
  | rc4Ksa => exact { h with rc4Loaded := fun _ => rsPermuted_ksaPermutation _ _, rc4Empty := nofun }
  | ccInit => exact { h with ccLoaded := fun _ => ⟨s.key, s.ctr, s.nonce, rfl⟩, ccEmpty := nofun }
  | nop => exact h
  | _ => exact { h with }

/-- R23: no effect puts a command into the slot. -/
theorem State.effect_pend_valid {i : Instr} (hv : s.pend.valid = false) : (s.effect i).pend.valid = false := by
  by_cases hc : i = .clear
  · rw [hc]
    rfl
  · rw [(s.effect_of_ne_clear hc).1, hv]

/-- R245: an RC4.PRGA that completes without an error has found RC4 keyed. -/
theorem rc4Rdy_of_exec_rc4Prga {n : Byte} {t : State} (hx : exec (.rc4Prga n) s = .next t) (ht : t.status.err = false) :
    s.status.rc4Rdy = true := by
  by_contra hr
  have hfail : exec (.rc4Prga n) s = .next (s.failedWith 3) :=
    State.require_of_false (e := .notReady) (by simpa using hr)
  cases hfail.symm.trans hx
  cases ht

/-- R293: a command keeps the invariant, with the slot empty before it. -/
theorem State.Inv.exec {i : Instr} {t : State} (h : s.Inv) (hv : s.pend.valid = false) (hx : exec i s = .next t) :
    t.Inv := by
  obtain ⟨e, rfl⟩ | rfl := exec_cases hx
  · exact h.failedWith hv e
  · have hr : ∀ n, i = .rc4Prga n → s.status.rc4Rdy = true := by
      rintro n rfl
      exact rc4Rdy_of_exec_rc4Prga hx rfl
    exact (h.effect hr).succeeded (State.effect_pend_valid hv)

/-- R121, R122: the engine's turn, idle, performing a command or completing an illegal word. -/
theorem State.Inv.engineTurn {t : State} (h : s.Inv) (hx : s.engineTurn = .next t) : t.Inv := by
  obtain ⟨-, hs⟩ | ⟨-, i, -, hs⟩ | ⟨-, e, -, hs⟩ := s.engineTurn_cases
  · cases hs.symm.trans hx
    exact h
  · exact h.takePending.exec rfl (hs.symm.trans hx)
  · cases hs.symm.trans hx
    exact h.takePending.failedWith rfl .illegalCommand

/-- R5: an event of any agent. -/
theorem State.Inv.perform {t : State} {e : Event} (h : s.Inv) (hx : s.perform e = .next t) : t.Inv := by
  cases e with
  | access a =>
    obtain ⟨-, ⟨-, rfl⟩ | ⟨v, -, rfl⟩⟩ := State.hostAccess_cases hx
    · exact h.hostRead a.off
    · exact h.hostWrite a.off v
  | engine => exact h.engineTurn hx
  | assertReset =>
    cases hx
    exact s.assertReset_inv
  | releaseReset =>
    cases hx
    exact h.releaseReset

end Updates

/-- Settles O59: a step is the engine's turn or an event, and taking the event off the agenda touches no field of the invariant. -/
theorem everyStepKeepsInvariant : Obligations.EveryStepKeepsInvariant := by
  intro s t h hx
  obtain ⟨-, hs⟩ | ⟨e, rest, -, hs⟩ := step_cases s
  · exact h.engineTurn (hs.symm.trans hx)
  · have hrest : State.Inv { s with agenda := rest } := { h with }
    exact hrest.perform (hs.symm.trans hx)

end Sys2Proof.Machine

namespace Sys2Proof.Machine

/-! PROOFS. XOR and additive maps of bit vectors, which their values at the single bits determine. -/

/-- XOR twice with the same value has no effect. -/
theorem xor_xor_cancel_right {w : Nat} (x z : BitVec w) : x ^^^ z ^^^ z = x := by
  rw [BitVec.xor_assoc, BitVec.xor_self, BitVec.xor_zero]

/-- The XOR of two values does not change when both are XORed with a third. -/
theorem xor_xor_xor_cancel_right {w : Nat} (x y z : BitVec w) : (x ^^^ z) ^^^ (y ^^^ z) = x ^^^ y := by
  rw [BitVec.xor_comm y z, ← BitVec.xor_assoc, xor_xor_cancel_right]

/-- The low `k + 1` bits of a value are its low `k` bits and bit `k`. -/
theorem setWidth_succ_eq_xor_twoPow {w : Nat} (x : BitVec w) (k : Nat) :
    (x.setWidth (k + 1)).setWidth w =
      (x.setWidth k).setWidth w ^^^ (if x.getLsbD k then BitVec.twoPow w k else 0) := by
  apply BitVec.eq_of_getLsbD_eq
  intro i hi
  rw [BitVec.getLsbD_xor]
  simp only [BitVec.getLsbD_setWidth, decide_eq_true hi, Bool.true_and]
  obtain hlt | rfl | hgt := Nat.lt_trichotomy i k
  · cases x.getLsbD k <;> simp [hlt, hlt.ne', Nat.lt_succ_of_lt hlt]
  · cases hb : x.getLsbD i <;> simp [hi]
  · cases x.getLsbD k <;> simp [hgt.ne, show ¬i < k by omega, show ¬i < k + 1 by omega]

/-- What holds of 0 and of the single bits, and of the XOR of two values with it, holds of every value. -/
theorem xor_induction {w : Nat} {P : BitVec w → Prop} (h0 : P 0) (hbit : ∀ k, k < w → P (BitVec.twoPow w k))
    (hxor : ∀ x y, P x → P y → P (x ^^^ y)) (x : BitVec w) : P x := by
  suffices h : ∀ k, k ≤ w → P ((x.setWidth k).setWidth w) by simpa using h w le_rfl
  intro k
  induction k with
  | zero =>
    intro _
    rwa [show (x.setWidth 0).setWidth w = 0 from BitVec.eq_of_getLsbD_eq (by simp)]
  | succ k ih =>
    intro hk
    rw [setWidth_succ_eq_xor_twoPow]
    refine hxor _ _ (ih (Nat.le_of_lt hk)) ?_
    cases x.getLsbD k with
    | false => exact h0
    | true => exact hbit k hk

/-- A map that takes XOR to XOR. -/
def XorAdditive {w v : Nat} (f : BitVec w → BitVec v) : Prop := ∀ x y, f (x ^^^ y) = f x ^^^ f y

/-- An additive map takes 0 to 0. -/
theorem XorAdditive.map_zero {w v : Nat} {f : BitVec w → BitVec v} (h : XorAdditive f) : f 0 = 0 := by
  have h00 := h 0 0
  rwa [show (0 : BitVec w) ^^^ 0 = 0 from BitVec.xor_self, BitVec.xor_self] at h00

/-- Two additive maps that agree at the single bits are equal. -/
theorem XorAdditive.eq_of_twoPow {w v : Nat} {f g : BitVec w → BitVec v} (hf : XorAdditive f) (hg : XorAdditive g)
    (h : ∀ k, k < w → f (BitVec.twoPow w k) = g (BitVec.twoPow w k)) (x : BitVec w) : f x = g x := by
  induction x using xor_induction with
  | h0 => rw [hf.map_zero, hg.map_zero]
  | hbit k hk => exact h k hk
  | hxor x y hx hy => rw [hf, hg, hx, hy]

/-! PROOFS. GF(2^8) (41_aes.md R131, R132). -/

/-- R132: doubling is additive. -/
theorem xtime_additive : XorAdditive xtime := by
  intro a b
  unfold xtime
  rw [BitVec.shiftLeft_xor_distrib, BitVec.getLsbD_xor]
  match a.getLsbD 7, b.getLsbD 7 with
  | true, true => exact BitVec.xor_zero.trans (xor_xor_xor_cancel_right _ _ _).symm
  | true, false | false, true | false, false =>
    simp only [Bool.xor_false, Bool.xor_true, Bool.not_false, if_true, Bool.false_eq_true, if_false]
    ac_rfl

/-- R131: the loop is additive in the first factor and the sum so far. -/
theorem gmulLoop_xor_left (k : Nat) (a a' b r r' : Byte) :
    gmulLoop k (a ^^^ a') b (r ^^^ r') = gmulLoop k a b r ^^^ gmulLoop k a' b r' := by
  induction k generalizing a a' r r' with
  | zero => rfl
  | succ k ih =>
    simp only [gmulLoop]
    rw [xtime_additive, ← ih]
    cases b.getLsbD (7 - k) with
    | false => rfl
    | true =>
      congr 1
      simp only [if_true]
      ac_rfl

/-- R131: and in the second factor and the sum so far. -/
theorem gmulLoop_xor_right (k : Nat) (a b b' r r' : Byte) :
    gmulLoop k a (b ^^^ b') (r ^^^ r') = gmulLoop k a b r ^^^ gmulLoop k a b' r' := by
  induction k generalizing a r r' with
  | zero => rfl
  | succ k ih =>
    simp only [gmulLoop]
    rw [← ih, BitVec.getLsbD_xor]
    congr 1
    match b.getLsbD (7 - k), b'.getLsbD (7 - k) with
    | true, true => exact (xor_xor_xor_cancel_right _ _ _).symm
    | false, false => rfl
    | true, false | false, true =>
      simp only [Bool.xor_false, Bool.xor_true, Bool.not_false, if_true, Bool.false_eq_true, if_false]
      ac_rfl

/-- R131: multiplication is additive in either factor. -/
theorem xor_gmul (a a' b : Byte) : gmul (a ^^^ a') b = gmul a b ^^^ gmul a' b := gmulLoop_xor_left 8 a a' b 0 0

theorem gmul_xor (a b b' : Byte) : gmul a (b ^^^ b') = gmul a b ^^^ gmul a b' := gmulLoop_xor_right 8 a b b' 0 0

theorem gmul_additive_left (b : Byte) : XorAdditive (gmul · b) := fun a a' => xor_gmul a a' b

theorem gmul_additive_right (a : Byte) : XorAdditive (gmul a) := gmul_xor a

/-- R131: multiplication commutes, because it does at the single bits. -/
theorem gmul_comm (a b : Byte) : gmul a b = gmul b a := by
  have hbits : ∀ i, i < 8 → ∀ j, j < 8 →
      gmul (BitVec.twoPow 8 i) (BitVec.twoPow 8 j) = gmul (BitVec.twoPow 8 j) (BitVec.twoPow 8 i) := by
    decide +kernel
  refine (gmul_additive_left b).eq_of_twoPow (gmul_additive_right b) (fun i hi => ?_) a
  exact (gmul_additive_right _).eq_of_twoPow (gmul_additive_left _) (fun j hj => hbits i hi j hj) b

/-- R131: 1 is neutral. -/
theorem gmul_one (a : Byte) : gmul a 1 = a :=
  (gmul_additive_left 1).eq_of_twoPow (g := id) (fun _ _ => rfl) (by decide +kernel) a

theorem one_gmul (a : Byte) : gmul 1 a = a := (gmul_comm 1 a).trans (gmul_one a)

/-- R131, R132: doubling a factor doubles the product. -/
theorem xtime_gmul (a b : Byte) : gmul (xtime a) b = xtime (gmul a b) := by
  suffices h : ∀ k a r, gmulLoop k (xtime a) b (xtime r) = xtime (gmulLoop k a b r) from h 8 a 0
  intro k
  induction k with
  | zero => exact fun _ _ => rfl
  | succ k ih =>
    intro a r
    simp only [gmulLoop]
    rw [← ih]
    cases b.getLsbD (7 - k) with
    | false => rfl
    | true => exact congrArg _ (xtime_additive r a).symm

/-- R131: a single bit is 1 or the double of a single bit. -/
theorem twoPow_succ_eq_xtime : ∀ k, k < 7 → BitVec.twoPow 8 (k + 1) = xtime (BitVec.twoPow 8 k) := by decide

/-- R131: multiplication is associative: at 1, by doubling at every single bit, and so everywhere. -/
theorem gmul_assoc (a b c : Byte) : gmul (gmul a b) c = gmul a (gmul b c) := by
  have hleft : XorAdditive fun a => gmul (gmul a b) c := fun x y => by
    show gmul (gmul (x ^^^ y) b) c = _
    rw [xor_gmul, xor_gmul]
  refine hleft.eq_of_twoPow (gmul_additive_left (gmul b c)) (fun k hk => ?_) a
  induction k with
  | zero =>
    show gmul (gmul 1 b) c = gmul 1 (gmul b c)
    rw [one_gmul, one_gmul]
  | succ k ih =>
    simp only [twoPow_succ_eq_xtime k (by omega), xtime_gmul, ih (by omega)]

/-- R132: doubling is multiplication by 2. -/
theorem two_gmul (a : Byte) : gmul 2 a = xtime a := by
  rw [show (2 : Byte) = xtime 1 by decide, xtime_gmul, one_gmul]

theorem three_gmul (a : Byte) : gmul 3 a = xtime a ^^^ a := by
  rw [show (3 : Byte) = 2 ^^^ 1 by decide, xor_gmul, two_gmul, one_gmul]

/-! PROOFS. The S-box and the inverse in GF(2^8) (41_aes.md R134, R135, R168). -/

/-- R134: the affine map of the S-box. -/
def sboxAffine (y : Byte) : Byte :=
  y ^^^ y.rotateLeft 1 ^^^ y.rotateLeft 2 ^^^ y.rotateLeft 3 ^^^ y.rotateLeft 4 ^^^ 0x63

/-- R134: the inverse in GF(2^8), read from the S-box by undoing the affine map. -/
def gfInverse (x : Byte) : Byte :=
  (sbox x ^^^ 0x63).rotateLeft 1 ^^^ (sbox x ^^^ 0x63).rotateLeft 3 ^^^ (sbox x ^^^ 0x63).rotateLeft 6

/-- R134: what the table of the S-box says, entry by entry. -/
theorem sbox_eq_sboxAffine : ∀ x : Byte, sbox x = sboxAffine (gfInverse x) := by decide +kernel

theorem gmul_gfInverse : ∀ x : Byte, x ≠ 0 → gmul x (gfInverse x) = 1 := by decide +kernel

/-- R131: an inverse is unique. -/
theorem eq_of_gmul_eq_one {a b c : Byte} (hb : gmul a b = 1) (hc : gmul a c = 1) : c = b :=
  calc c = gmul (gmul a b) c := by rw [hb, one_gmul]
    _ = gmul b (gmul a c) := by rw [gmul_comm a b, gmul_assoc]
    _ = b := by rw [hc, gmul_one]

/-- R131: 0 has no inverse. -/
theorem zero_gmul (b : Byte) : gmul 0 b = 0 := (gmul_additive_left b).map_zero

/-- R135: INVSBOX is the inverse of SBOX, entry by entry. -/
theorem invSbox_sbox : ∀ x : Byte, invSbox (sbox x) = x := by decide +kernel

theorem sbox_invSbox : ∀ x : Byte, sbox (invSbox x) = x := by decide +kernel

/-! PROOFS. The statements of 41_aes.md about GF(2^8) and the S-box. -/

/-- Settles O34: the laws of the field. -/
theorem gfMulIsFieldMultiplication : Obligations.GfMulIsFieldMultiplication :=
  ⟨gmul_comm, gmul_assoc, gmul_xor, fun a => (gmul_additive_right a).map_zero, gmul_one,
    fun a ha => ⟨gfInverse a, gmul_gfInverse a ha, fun _ hc => eq_of_gmul_eq_one (gmul_gfInverse a ha) hc⟩,
    two_gmul, three_gmul⟩

/-- Settles O35: the inverse that the table holds is the only one, and 0 stands for its own. -/
theorem sboxIsInverseThenAffineMap : Obligations.SboxIsInverseThenAffineMap := by
  refine ⟨fun x y hxy => ?_, fun x => ⟨invSbox_sbox x, sbox_invSbox x⟩, by decide +kernel⟩
  obtain rfl : y = gfInverse x := by
    obtain hinv | ⟨rfl, rfl⟩ := hxy
    · have hx : x ≠ 0 := by
        rintro rfl
        rw [zero_gmul] at hinv
        exact absurd hinv (by decide)
      exact eq_of_gmul_eq_one (gmul_gfInverse x hx) hinv
    · decide
  exact sbox_eq_sboxAffine x

/-- Settles O33: the four queries write a byte, zero-extended. -/
theorem gfAndSboxQueriesWriteResult : Obligations.GfAndSboxQueriesWriteResult := by
  intro s a b
  have hresult : ∀ v : Byte, (s.withByteResult v).finish =
      .next (State.succeeded { s with result := (0 : BitVec 24) ++ v }) := fun v =>
    congrArg (fun r : Word => Host.Outcome.next (State.succeeded { s with result := r })) (BitVec.setWidth_eq_append (by decide))
  exact ⟨hresult _, hresult _, hresult _, hresult _⟩

end Sys2Proof.Machine

namespace Sys2Proof.Machine

/-! PROOFS. The AES stages cell by cell and column by column (41_aes.md R130, R137 to R142). -/

/-- R130: cells of a state built column by column. -/
theorem cell_mapColumns (f : Word → Word) (s : Block) (r c : Fin 4) : cell (mapColumns f s) r c = laneByte (f s[c]) r.val := by
  fin_cases c <;> rfl

/-- R130: two states with the same cells are equal. -/
theorem block_ext {s t : Block} (h : ∀ r c, cell s r c = cell t r c) : s = t := by
  rw [← ofCells_cell s, ← ofCells_cell t, funext fun r => funext fun c => h r c]

/-- R137 to R140: the cells of each stage. -/
@[simp] theorem cell_subBytes (s : Block) (r c : Fin 4) : cell (subBytes s) r c = sbox (cell s r c) := cell_ofCells _ r c

@[simp] theorem cell_invSubBytes (s : Block) (r c : Fin 4) : cell (invSubBytes s) r c = invSbox (cell s r c) :=
  cell_ofCells _ r c

@[simp] theorem cell_shiftRows (s : Block) (r c : Fin 4) : cell (shiftRows s) r c = cell s r (c + r) := cell_ofCells _ r c

@[simp] theorem cell_invShiftRows (s : Block) (r c : Fin 4) : cell (invShiftRows s) r c = cell s r (c - r) :=
  cell_ofCells _ r c

/-- R141: the cells of MixColumns. -/
theorem cell_mixColumns (s : Block) (r c : Fin 4) : cell (mixColumns s) r c =
    gmul 2 (cell s r c) ^^^ gmul 3 (cell s (r + 1) c) ^^^ cell s (r + 2) c ^^^ cell s (r + 3) c := by
  rw [mixColumns, cell_mapColumns, mixColumn]
  fin_cases r <;> simp [cell, mulTable] <;> ac_rfl

/-- R142: the cells of InvMixColumns. -/
theorem cell_invMixColumns (s : Block) (r c : Fin 4) : cell (invMixColumns s) r c =
    gmul 14 (cell s r c) ^^^ gmul 11 (cell s (r + 1) c) ^^^ gmul 13 (cell s (r + 2) c) ^^^ gmul 9 (cell s (r + 3) c) := by
  rw [invMixColumns, cell_mapColumns, invMixColumn]
  fin_cases r <;> simp [cell, mulTable] <;> ac_rfl

/-! PROOFS. Each stage's inverse (41_aes.md R137 to R142). -/

@[simp] theorem invSubBytes_subBytes (s : Block) : invSubBytes (subBytes s) = s :=
  block_ext fun r c => by rw [cell_invSubBytes, cell_subBytes, invSbox_sbox]

@[simp] theorem subBytes_invSubBytes (s : Block) : subBytes (invSubBytes s) = s :=
  block_ext fun r c => by rw [cell_subBytes, cell_invSubBytes, sbox_invSbox]

@[simp] theorem invShiftRows_shiftRows (s : Block) : invShiftRows (shiftRows s) = s :=
  block_ext fun r c => by rw [cell_invShiftRows, cell_shiftRows, sub_add_cancel]

@[simp] theorem shiftRows_invShiftRows (s : Block) : shiftRows (invShiftRows s) = s :=
  block_ext fun r c => by rw [cell_shiftRows, cell_invShiftRows, add_sub_cancel_right]

/-- R139, R140: a row shifted three times to the left is shifted once to the right. -/
theorem shiftRows_three (s : Block) : shiftRows (shiftRows (shiftRows s)) = invShiftRows s := by
  have hcol : ∀ r c : Fin 4, c + r + r + r = c - r := by decide
  exact block_ext fun r c => by simp only [cell_shiftRows, cell_invShiftRows, hcol]

/-- R14: packing and taking bytes are additive. -/
theorem laneByte_xor (w v : Word) (k : Nat) : laneByte (w ^^^ v) k = laneByte w k ^^^ laneByte v k :=
  BitVec.extractLsb'_xor

theorem packBytes_xor (a b c d a' b' c' d' : Byte) :
    packBytes (a ^^^ a') (b ^^^ b') (c ^^^ c') (d ^^^ d') = packBytes a b c d ^^^ packBytes a' b' c' d' := by
  apply eq_of_laneByte_eq
  intro k hk
  interval_cases k <;> simp [laneByte_xor]

/-- R141: a mixed column is additive in the column. -/
theorem mixColumn_additive : XorAdditive mixColumn := by
  intro w v
  unfold mixColumn
  rw [← packBytes_xor]
  simp only [mulTable, laneByte_xor, gmul_xor]
  congr 1 <;> ac_rfl

/-- R142: so is an inverse mixed column. -/
theorem invMixColumn_additive : XorAdditive invMixColumn := by
  intro w v
  unfold invMixColumn
  rw [← packBytes_xor]
  simp only [mulTable, laneByte_xor, gmul_xor]
  congr 1 <;> ac_rfl

/-- R141, R142: mixing a column and its inverse undo each other, because they do at the single bits. -/
@[simp] theorem invMixColumn_mixColumn (w : Word) : invMixColumn (mixColumn w) = w := by
  refine XorAdditive.eq_of_twoPow (f := fun w => invMixColumn (mixColumn w)) (g := id) (fun x y => ?_) (fun _ _ => rfl)
    (by decide +kernel) w
  show invMixColumn (mixColumn (x ^^^ y)) = _
  rw [mixColumn_additive, invMixColumn_additive]

@[simp] theorem mixColumn_invMixColumn (w : Word) : mixColumn (invMixColumn w) = w := by
  refine XorAdditive.eq_of_twoPow (f := fun w => mixColumn (invMixColumn w)) (g := id) (fun x y => ?_) (fun _ _ => rfl)
    (by decide +kernel) w
  show mixColumn (invMixColumn (x ^^^ y)) = _
  rw [invMixColumn_additive, mixColumn_additive]

/-- R130: two states with the same columns are equal. -/
theorem block_ext_columns {s t : Block} (h0 : s[0] = t[0]) (h1 : s[1] = t[1]) (h2 : s[2] = t[2]) (h3 : s[3] = t[3]) : s = t := by
  apply Vector.ext
  intro i hi
  interval_cases i
  · exact h0
  · exact h1
  · exact h2
  · exact h3

@[simp] theorem invMixColumns_mixColumns (s : Block) : invMixColumns (mixColumns s) = s :=
  block_ext_columns (invMixColumn_mixColumn _) (invMixColumn_mixColumn _) (invMixColumn_mixColumn _) (invMixColumn_mixColumn _)

@[simp] theorem mixColumns_invMixColumns (s : Block) : mixColumns (invMixColumns s) = s :=
  block_ext_columns (mixColumn_invMixColumn _) (mixColumn_invMixColumn _) (mixColumn_invMixColumn _) (mixColumn_invMixColumn _)

/-! PROOFS. Round keys (41_aes.md R143, R148). -/

section RoundKeys

variable {w dw : Vector Word 60} {n : Nat}

/-- R143: adding the same round key twice has no effect. -/
theorem addRoundKey_cancel (h : ∀ c, c < 4 → schedWord dw (4 * n + c) = schedWord w (4 * n + c)) (s : Block) :
    addRoundKey (addRoundKey s w n) dw n = s := by
  have h0 : schedWord dw (4 * n) = schedWord w (4 * n) := h 0 (by decide)
  have h1 := h 1 (by decide)
  have h2 := h 2 (by decide)
  have h3 := h 3 (by decide)
  apply block_ext_columns <;> simp [addRoundKey, h0, h1, h2, h3]

/-- R143, R148: InvMixColumns moves past a round key whose words it maps too. -/
theorem invMixColumns_addRoundKey (h : ∀ c, c < 4 → schedWord dw (4 * n + c) = invMixColumn (schedWord w (4 * n + c))) (s : Block) :
    invMixColumns (addRoundKey s w n) = addRoundKey (invMixColumns s) dw n := by
  have h0 : schedWord dw (4 * n) = invMixColumn (schedWord w (4 * n)) := h 0 (by decide)
  have h1 := h 1 (by decide)
  have h2 := h 2 (by decide)
  have h3 := h 3 (by decide)
  apply block_ext_columns <;> simp [addRoundKey, invMixColumns, mapColumns, h0, h1, h2, h3, invMixColumn_additive _ _]

end RoundKeys

/-! PROOFS. The ciphers undo each other (41_aes.md R149, R150, R170). -/

/-- Rounds undone one by one in the reverse order: where each round of `g` undoes one of `f` on what `φ` makes of the state, the rounds
of a list undo each other. -/
theorem foldl_reverse_undo {α β γ : Type} {f : α → γ → α} {g : β → γ → β} {φ : α → β} {ns : List γ}
    (h : ∀ n ∈ ns, ∀ a, g (φ (f a n)) n = φ a) (a : α) : ns.reverse.foldl g (φ (ns.foldl f a)) = φ a := by
  induction ns generalizing a with
  | nil => rfl
  | cons n ns ih =>
    rw [List.reverse_cons, List.foldl_append]
    show g (ns.reverse.foldl g (φ (ns.foldl f (f a n)))) n = φ a
    rw [ih fun m hm => h m (List.mem_cons_of_mem n hm)]
    exact h n List.mem_cons_self a

/-- R149: the part of a round that comes before MixColumns and the round key. -/
def subShift (s : Block) : Block := shiftRows (subBytes s)

/-- R150: its inverse. -/
def invSubShift (s : Block) : Block := invShiftRows (invSubBytes s)

/-- R137 to R140: bytes are substituted one by one, so rows may be shifted before or after. -/
theorem subBytes_invShiftRows (s : Block) : subBytes (invShiftRows s) = invShiftRows (subBytes s) :=
  block_ext fun r c => by simp only [cell_subBytes, cell_invShiftRows]

theorem invSubBytes_shiftRows (s : Block) : invSubBytes (shiftRows s) = shiftRows (invSubBytes s) :=
  block_ext fun r c => by simp only [cell_invSubBytes, cell_shiftRows]

@[simp] theorem subShift_invSubShift (s : Block) : subShift (invSubShift s) = s := by
  rw [subShift, invSubShift, subBytes_invShiftRows, subBytes_invSubBytes, shiftRows_invShiftRows]

@[simp] theorem invSubShift_subShift (s : Block) : invSubShift (subShift s) = s := by
  rw [subShift, invSubShift, invSubBytes_shiftRows, invSubBytes_subBytes, invShiftRows_shiftRows]

/-- R148: `dw` is the decryption schedule of `w` for `nr` rounds: the round keys 0 and Nr as they are, the others through InvMixColumn. -/
structure IsDecSchedule (nr : Nat) (w dw : Vector Word 60) : Prop where
  outer : ∀ n, n = 0 ∨ n = nr → ∀ c, c < 4 → schedWord dw (4 * n + c) = schedWord w (4 * n + c)
  inner : ∀ n, 1 ≤ n → n < nr → ∀ c, c < 4 → schedWord dw (4 * n + c) = invMixColumn (schedWord w (4 * n + c))

/-- R148: what AES.KEYEXP stores in DW is one. -/
theorem isDecSchedule_decSchedule {nr : Nat} (hnr : nr ≤ 14) (w : Vector Word 60) : IsDecSchedule nr w (decSchedule nr w) where
  outer n hn c hc := (schedWord_decSchedule w hc (by omega)).trans (if_pos hn)
  inner n h1 hn c hc :=
    (schedWord_decSchedule w hc (by omega)).trans ((if_neg (by omega : ¬(n = 0 ∨ n = nr))).trans (if_pos hn))

section Ciphers

variable {nr n : Nat} {w dw : Vector Word 60}

/-- R148: the two schedules' outer round keys cancel, whichever comes first. -/
theorem IsDecSchedule.addRoundKey_dw_w (h : IsDecSchedule nr w dw) (hn : n = 0 ∨ n = nr) (s : Block) :
    addRoundKey (addRoundKey s w n) dw n = s :=
  addRoundKey_cancel (h.outer n hn) s

theorem IsDecSchedule.addRoundKey_w_dw (h : IsDecSchedule nr w dw) (hn : n = 0 ∨ n = nr) (s : Block) :
    addRoundKey (addRoundKey s dw n) w n = s :=
  addRoundKey_cancel (fun c hc => (h.outer n hn c hc).symm) s

/-- R149, R150: an inner decryption round undoes the encryption round of its number, between the substitutions of two rounds. -/
theorem IsDecSchedule.decRound_encRound (h : IsDecSchedule nr w dw) (h1 : 1 ≤ n) (hn : n < nr) (s : Block) :
    decRound dw (subShift (encRound w s n)) n = subShift s := by
  calc decRound dw (subShift (encRound w s n)) n
      = addRoundKey (invMixColumns (encRound w s n)) dw n :=
        congrArg (fun b => addRoundKey (invMixColumns b) dw n) (invSubShift_subShift _)
    _ = invMixColumns (addRoundKey (encRound w s n) w n) := (invMixColumns_addRoundKey (h.inner n h1 hn) _).symm
    _ = invMixColumns (mixColumns (subShift s)) := congrArg invMixColumns (addRoundKey_cancel (fun _ _ => rfl) _)
    _ = subShift s := invMixColumns_mixColumns _

/-- R149, R150: and an inner encryption round the decryption round. -/
theorem IsDecSchedule.encRound_decRound (h : IsDecSchedule nr w dw) (h1 : 1 ≤ n) (hn : n < nr) (s : Block) :
    encRound w (invSubShift (decRound dw s n)) n = invSubShift s := by
  calc encRound w (invSubShift (decRound dw s n)) n
      = addRoundKey (mixColumns (decRound dw s n)) w n :=
        congrArg (fun b => addRoundKey (mixColumns b) w n) (subShift_invSubShift _)
    _ = addRoundKey (mixColumns (invMixColumns (addRoundKey (invSubShift s) w n))) w n :=
        congrArg (fun b => addRoundKey (mixColumns b) w n) (invMixColumns_addRoundKey (h.inner n h1 hn) _).symm
    _ = addRoundKey (addRoundKey (invSubShift s) w n) w n := by rw [mixColumns_invMixColumns]
    _ = invSubShift s := addRoundKey_cancel (fun _ _ => rfl) _

/-- R149, R150: the inner rounds have the numbers 1 to Nr-1. -/
theorem mem_innerRounds (h : n ∈ List.range' 1 (nr - 1)) : 1 ≤ n ∧ n < nr := by
  rw [List.mem_range'_1] at h
  omega

/-- R170: decryption undoes encryption. -/
theorem IsDecSchedule.decryptBlock_encryptBlock (h : IsDecSchedule nr w dw) (s : Block) :
    decryptBlock dw nr (encryptBlock w nr s) = s := by
  have hinner : ∀ n ∈ List.range' 1 (nr - 1), ∀ b, decRound dw (subShift (encRound w b n)) n = subShift b :=
    fun n hn b => h.decRound_encRound (mem_innerRounds hn).1 (mem_innerRounds hn).2 b
  rw [decryptBlock, encryptBlock, encLast, h.addRoundKey_dw_w (.inr rfl)]
  show decLast dw (List.foldl _ (subShift _) _) = s
  rw [foldl_reverse_undo hinner]
  show addRoundKey (invSubShift (subShift _)) dw 0 = s
  rw [invSubShift_subShift, h.addRoundKey_dw_w (.inl rfl)]

/-- R170: encryption undoes decryption. -/
theorem IsDecSchedule.encryptBlock_decryptBlock (h : IsDecSchedule nr w dw) (s : Block) :
    encryptBlock w nr (decryptBlock dw nr s) = s := by
  have hinner : ∀ n ∈ (List.range' 1 (nr - 1)).reverse, ∀ b, encRound w (invSubShift (decRound dw b n)) n = invSubShift b :=
    fun n hn b => h.encRound_decRound (mem_innerRounds (List.mem_reverse.mp hn)).1 (mem_innerRounds (List.mem_reverse.mp hn)).2 b
  have hfold := foldl_reverse_undo hinner (addRoundKey s dw nr)
  rw [List.reverse_reverse] at hfold
  rw [encryptBlock, decryptBlock, decLast, h.addRoundKey_w_dw (.inl rfl)]
  show encLast w nr (List.foldl _ (invSubShift _) _) = s
  rw [hfold]
  show addRoundKey (subShift (invSubShift _)) w nr = s
  rw [subShift_invSubShift, h.addRoundKey_w_dw (.inr rfl)]

end Ciphers

/-! PROOFS. Sequences of commands. -/

/-- Commands performed after others. -/
theorem runCommands_append {l l' : List Instr} {s t : State} (h : runCommands l s = .next t) :
    runCommands (l ++ l') s = runCommands l' t := by
  induction l generalizing s with
  | nil => exact congrArg (runCommands l') (Host.Outcome.next.inj h)
  | cons i l ih =>
    rw [List.cons_append, runCommands]
    rw [runCommands] at h
    cases hi : exec i s with
    | next u =>
      rw [hi] at h
      exact ih h
    | fault f => cases f
    | refused r =>
      rw [hi] at h
      cases h

/-- One command more. -/
theorem runCommands_cons {i : Instr} {l : List Instr} {s t : State} (h : exec i s = .next t) :
    runCommands (i :: l) s = runCommands l t := by
  rw [runCommands, h]

theorem runCommands_singleton (i : Instr) (s : State) : runCommands [i] s = exec i s := by
  obtain ⟨t, ht, -⟩ := exec_answers i s
  rw [runCommands_cons ht, ht, runCommands]

/-- Commands that each act on one part of the state act on it one after the other. -/
theorem runCommands_map {α β : Type} {emb : α → State} {f : α → β → α} {cmd : β → Instr} {ns : List β}
    (h : ∀ n ∈ ns, ∀ a, exec (cmd n) (emb a) = .next (emb (f a n))) (a : α) :
    runCommands (ns.map cmd) (emb a) = .next (emb (ns.foldl f a)) := by
  induction ns generalizing a with
  | nil => rfl
  | cons n ns ih =>
    rw [List.map_cons, runCommands_cons (h n List.mem_cons_self a)]
    exact ih (fun m hm => h m (List.mem_cons_of_mem n hm)) _

/-! PROOFS. The statements of 41_aes.md about the AES commands. -/

section Loaded

variable {s : State} {n : Nat}

/-- R30: Nr is at most 14. -/
theorem State.nr_le (s : State) : s.nr ≤ 14 := by
  unfold State.nr
  cases s.status.aesNr <;> decide

/-- R102: a number up to Nr is an operand. -/
theorem toNat_ofNat_of_le_nr (h : n ≤ s.nr) : (BitVec.ofNat 8 n).toNat = n := by
  rw [BitVec.toNat_ofNat, Nat.mod_eq_of_lt (by have := s.nr_le; omega)]

/-- R154, R161: the round key commands with a schedule loaded. -/
theorem exec_aesAddrk {n : Byte} (h : s.status.aesRkv = true) (hn : n.toNat ≤ s.nr) :
    exec (.aesAddrk n) s = .next (s.withBlock (addRoundKey s.blk s.w n.toNat)).succeeded :=
  (State.require_of_true h).trans (State.require_of_true (decide_eq_true hn))

theorem exec_aesAdddrk {n : Byte} (h : s.status.aesRkv = true) (hn : n.toNat ≤ s.nr) :
    exec (.aesAdddrk n) s = .next (s.withBlock (addRoundKey s.blk s.dw n.toNat)).succeeded :=
  (State.require_of_true h).trans (State.require_of_true (decide_eq_true hn))

/-- R162, R164: 1 to Nr-1 are the numbers of inner rounds. -/
theorem innerRoundOk_of_le {n : Byte} {nr : Nat} (h1 : 1 ≤ n.toNat) (hn : n.toNat + 1 ≤ nr) : innerRoundOk n nr = true := by
  simp [innerRoundOk, h1, hn]

theorem exec_aesEncrnd {n : Byte} (h : s.status.aesRkv = true) (h1 : 1 ≤ n.toNat) (hn : n.toNat + 1 ≤ s.nr) :
    exec (.aesEncrnd n) s = .next (s.withBlock (encRound s.w s.blk n.toNat)).succeeded :=
  (State.require_of_true h).trans (State.require_of_true (innerRoundOk_of_le h1 hn))

theorem exec_aesDecrnd {n : Byte} (h : s.status.aesRkv = true) (h1 : 1 ≤ n.toNat) (hn : n.toNat + 1 ≤ s.nr) :
    exec (.aesDecrnd n) s = .next (s.withBlock (decRound s.dw s.blk n.toNat)).succeeded :=
  (State.require_of_true h).trans (State.require_of_true (innerRoundOk_of_le h1 hn))

end Loaded

/-- Settles O27: the ready flag is the only check of these commands. -/
theorem aesBlockCommandsComplete : Obligations.AesBlockCommandsComplete := fun _ h =>
  ⟨State.require_of_true h, State.require_of_true h, State.require_of_true h, State.require_of_true h⟩

/-- Settles O28: both checks hold; a round key is XORed column by column. -/
theorem aesRoundCommandsComplete : Obligations.AesRoundCommandsComplete := by
  intro s n h
  have hcol : ∀ (k : Vector Word 60) (c : Fin 4),
      (addRoundKey s.blk k n.toNat)[c] = s.blk[c] ^^^ schedWord k (4 * n.toNat + c.val) := by
    intro k c
    fin_cases c <;> rfl
  exact ⟨fun hn => ⟨⟨_, exec_aesAddrk h hn, rfl, hcol s.w⟩, ⟨_, exec_aesAdddrk h hn, rfl, hcol s.dw⟩⟩,
    fun h1 hn => ⟨exec_aesEncrnd h h1 hn, exec_aesDecrnd h h1 hn⟩⟩

/-- Settles O29: the cells of each stage. -/
theorem aesStageCommandsAreCellwise : Obligations.AesStageCommandsAreCellwise := fun s =>
  ⟨⟨_, rfl, rfl, cell_subBytes s.blk⟩, ⟨_, rfl, rfl, cell_invSubBytes s.blk⟩,
    ⟨_, rfl, rfl, fun r c => (cell_shiftRows s.blk r c).trans (congrArg (cell s.blk r) (Fin.ext rfl))⟩,
    ⟨_, rfl, rfl, fun r c => (cell_invShiftRows s.blk r c).trans (congrArg (cell s.blk r)
      ((by decide : ∀ r c : Fin 4, c - r = Fin.ofNat 4 (c.val + 4 - r.val)) r c))⟩,
    ⟨_, rfl, rfl, cell_mixColumns s.blk⟩, ⟨_, rfl, rfl, cell_invMixColumns s.blk⟩⟩

/-- Two stage commands, of which the second undoes the first. -/
theorem runCommands_stage_inverse {i j : Instr} {f g : Block → Block}
    (hi : ∀ s, exec i s = .next (s.withBlock (f s.blk)).succeeded) (hj : ∀ s, exec j s = .next (s.withBlock (g s.blk)).succeeded)
    (hgf : ∀ b, g (f b) = b) (s : State) : runCommands [i, j] s = .next s.succeeded := by
  rw [runCommands_cons (hi s), runCommands_singleton, hj, State.succeeded_blk, State.withBlock_blk, hgf]
  rfl

/-- R156: AES.SHIFTROWS three times. -/
theorem runCommands_shiftrows_three (s : State) :
    runCommands [.aesShiftrows, .aesShiftrows, .aesShiftrows] s = exec .aesInvshiftrows s := by
  have hexec : ∀ u, exec .aesShiftrows u = .next (u.withBlock (shiftRows u.blk)).succeeded := fun _ => rfl
  show _ = Host.Outcome.next (s.withBlock (invShiftRows s.blk)).succeeded
  rw [runCommands_cons (hexec _), runCommands_cons (hexec _), runCommands_singleton, hexec, ← shiftRows_three]
  rfl

/-- Settles O32: the stages undo each other on every block; the fourth AES.SHIFTROWS undoes the first three. -/
theorem aesStageInversesRestoreBlock : Obligations.AesStageInversesRestoreBlock := by
  intro s
  refine ⟨runCommands_stage_inverse (fun _ => rfl) (fun _ => rfl) invSubBytes_subBytes s,
    runCommands_stage_inverse (fun _ => rfl) (fun _ => rfl) subBytes_invSubBytes s,
    runCommands_stage_inverse (fun _ => rfl) (fun _ => rfl) invShiftRows_shiftRows s,
    runCommands_stage_inverse (fun _ => rfl) (fun _ => rfl) shiftRows_invShiftRows s,
    runCommands_stage_inverse (fun _ => rfl) (fun _ => rfl) invMixColumns_mixColumns s,
    runCommands_stage_inverse (fun _ => rfl) (fun _ => rfl) mixColumns_invMixColumns s, ?four, runCommands_shiftrows_three s⟩
  case four =>
    have hinv := runCommands_stage_inverse (i := .aesShiftrows) (j := .aesInvshiftrows) (fun _ => rfl) (fun _ => rfl)
      invShiftRows_shiftRows s
    rw [runCommands_cons rfl] at hinv ⊢
    rw [runCommands_shiftrows_three, ← hinv, runCommands_singleton]

/-- R152, R153: the whole-block commands with a schedule loaded. -/
theorem exec_aesEncblk {s : State} (h : s.status.aesRkv = true) :
    exec .aesEncblk s = .next (s.withBlock (encryptBlock s.w s.nr s.blk)).succeeded :=
  State.require_of_true h

theorem exec_aesDecblk {s : State} (h : s.status.aesRkv = true) :
    exec .aesDecblk s = .next (s.withBlock (decryptBlock s.dw s.nr s.blk)).succeeded :=
  State.require_of_true h

section Sequences

variable {s : State} {n : Nat}

/-- R102, R162: the number of an inner round as an operand. -/
theorem toNat_ofNat_of_mem_innerRounds (hn : n ∈ List.range' 1 (s.nr - 1)) : (BitVec.ofNat 8 n).toNat = n :=
  toNat_ofNat_of_le_nr (mem_innerRounds hn).2.le

/-- R162: the command of an inner round, on a state that holds a block. -/
theorem exec_aesEncrnd_withBlock (h : s.status.aesRkv = true) (hn : n ∈ List.range' 1 (s.nr - 1)) (b : Block) :
    exec (.aesEncrnd (BitVec.ofNat 8 n)) (s.withBlock b).succeeded = .next (s.withBlock (encRound s.w b n)).succeeded := by
  have hto := toNat_ofNat_of_mem_innerRounds hn
  obtain ⟨h1, hlt⟩ := mem_innerRounds hn
  rw [exec_aesEncrnd (s := (s.withBlock b).succeeded) h (hto.symm ▸ h1) (hto.symm ▸ hlt), hto]
  rfl

/-- R164: and of an inner decryption round. -/
theorem exec_aesDecrnd_withBlock (h : s.status.aesRkv = true) (hn : n ∈ List.range' 1 (s.nr - 1)) (b : Block) :
    exec (.aesDecrnd (BitVec.ofNat 8 n)) (s.withBlock b).succeeded = .next (s.withBlock (decRound s.dw b n)).succeeded := by
  have hto := toNat_ofNat_of_mem_innerRounds hn
  obtain ⟨h1, hlt⟩ := mem_innerRounds hn
  rw [exec_aesDecrnd (s := (s.withBlock b).succeeded) h (hto.symm ▸ h1) (hto.symm ▸ hlt), hto]
  rfl

end Sequences

/-- Settles O30: each sequence starts with a round key, goes on with the inner rounds one by one and ends with the last round. -/
theorem aesBlockCommandsEqualRoundCommands : Obligations.AesBlockCommandsEqualRoundCommands := by
  intro s h
  have hnr : (BitVec.ofNat 8 s.nr).toNat = s.nr := toNat_ofNat_of_le_nr le_rfl
  constructor
  · have hrounds := runCommands_map (fun n hn b => exec_aesEncrnd_withBlock h hn b)
      (addRoundKey s.blk s.w (0 : Byte).toNat)
    rw [List.append_assoc, List.singleton_append, runCommands_cons (exec_aesAddrk h (Nat.zero_le _)), runCommands_append hrounds,
      runCommands_singleton, exec_aesEncblk h]
    exact State.require_of_true h
  · have hrounds := runCommands_map (fun n hn b => exec_aesDecrnd_withBlock h (List.mem_reverse.mp hn) b)
      (addRoundKey s.blk s.dw s.nr)
    rw [List.append_assoc, List.singleton_append, runCommands_cons (exec_aesAdddrk h hnr.le), hnr, runCommands_append hrounds,
      runCommands_singleton, exec_aesDecblk h]
    exact State.require_of_true h

/-- R170: with a schedule and its decryption schedule loaded the whole-block commands undo each other. -/
theorem exec_aes_roundtrip {k : State} (h : k.status.aesRkv = true) (hdec : IsDecSchedule k.nr k.w k.dw) (b : Block) :
    (∃ t u, exec .aesEncblk { k with blk := b } = .next t ∧ exec .aesDecblk t = .next u ∧ u.blk = b) ∧
    (∃ t u, exec .aesDecblk { k with blk := b } = .next t ∧ exec .aesEncblk t = .next u ∧ u.blk = b) :=
  ⟨⟨_, _, exec_aesEncblk h, exec_aesDecblk h, hdec.decryptBlock_encryptBlock b⟩,
    ⟨_, _, exec_aesDecblk h, exec_aesEncblk h, hdec.encryptBlock_decryptBlock b⟩⟩

/-- Settles O31: what AES.KEYEXP stores in DW is the decryption schedule of W. -/
theorem aesEncryptDecryptRestoresBlock : Obligations.AesEncryptDecryptRestoresBlock := by
  intro s hlen
  obtain ⟨z, hz⟩ : ∃ z, aesSize s.keylen = some z := by
    obtain hk | hk | hk := hlen <;> rw [hk] <;> exact ⟨_, rfl⟩
  obtain ⟨-, -, hnr⟩ := aesSize_bounds hz
  exact ⟨_, exec_aesKeyexp_of_aesSize s hz, exec_aes_roundtrip rfl (isDecSchedule_decSchedule hnr _)⟩

end Sys2Proof.Machine

namespace Sys2Proof.Machine

/-! PROOFS. DES permutations, bit by bit (42_des.md R200, R201). -/

section Permute

variable {w m : Nat}

/-- R201: one output position more moves the others up by one and puts the selected bit at the bottom. -/
theorem permute_concat (x : BitVec w) (t : List Nat) (p : Nat) :
    permute m x (t ++ [p]) = (permute m x t <<< 1) ||| (BitVec.ofBool (x.getLsbD (w - p))).setWidth m := by
  rw [permute, List.foldl_append]
  rfl

/-- R201: bit `i` of a permutation, counted from the least significant, is the bit the `i`-th position from the end selects. -/
theorem getLsbD_permute (x : BitVec w) (t : List Nat) {i : Nat} (ht : i < t.length) (hm : i < m) :
    (permute m x t).getLsbD i = x.getLsbD (w - t.reverse.getD i 0) := by
  induction t using List.reverseRecOn generalizing i with
  | nil => exact absurd ht (Nat.not_lt_zero i)
  | append_singleton t p ih =>
    rw [permute_concat, List.reverse_concat, BitVec.getLsbD_or, BitVec.getLsbD_shiftLeft, BitVec.getLsbD_setWidth,
      BitVec.getLsbD_ofBool]
    cases i with
    | zero => simp [hm]
    | succ i => simpa [hm] using ih (by simpa using ht) (Nat.lt_of_succ_lt hm)

/-- R201: a permutation reads the positions of its table only. -/
theorem permute_congr {x y : BitVec w} {t : List Nat} (h : ∀ p ∈ t, x.getLsbD (w - p) = y.getLsbD (w - p)) :
    permute m x t = permute m y t :=
  List.foldl_ext _ _ _ fun r p hp => by rw [h p hp]

/-- R201: two permutations, the second of which selects what brings every bit back, leave a value as it was. -/
theorem permute_permute {t t' : List Nat} (ht : t.length = w) (ht' : t'.length = w) (hpos : ∀ i, i < w → w - t'.reverse.getD i 0 < w)
    (h : ∀ i, i < w → w - t.reverse.getD (w - t'.reverse.getD i 0) 0 = i) (x : BitVec w) :
    permute w (permute w x t) t' = x := by
  apply BitVec.eq_of_getLsbD_eq
  intro i hi
  rw [getLsbD_permute _ _ (ht'.symm ▸ hi) hi, getLsbD_permute _ _ (ht.symm ▸ hpos i hi) (hpos i hi), h i hi]

end Permute

/-- R202, R203: the initial and the final permutation undo each other. -/
theorem permute_fp_ip (x : BitVec 64) : permute 64 (permute 64 x ipTable) fpTable = x :=
  permute_permute (w := 64) rfl rfl (by decide) (by decide) x

theorem permute_ip_fp (x : BitVec 64) : permute 64 (permute 64 x fpTable) ipTable = x :=
  permute_permute (w := 64) rfl rfl (by decide) (by decide) x

/-! PROOFS. The block BLK0:BLK1 (42_des.md R200, R37). -/

/-- R37: writing back the block that stands in BLK0:BLK1. -/
theorem withDesBlock_desBlock (blk : Vector Word 4) : withDesBlock blk (desBlock blk) = blk :=
  block_ext_columns BitVec.extractLsb'_append_eq_left BitVec.extractLsb'_append_eq_right rfl rfl

/-! PROOFS. DES decryption undoes encryption (42_des.md R220, R228). -/

/-- R220: the halves exchanged. -/
def Halves.swap (h : Halves) : Halves := { l := h.r, r := h.l }

/-- R220: a round with the halves exchanged undoes the round. -/
theorem desRound_swap_desRound (sk : Vector Subkey 16) (h : Halves) (n : Nat) :
    desRound sk (desRound sk h n).swap n = h.swap := by
  show Halves.mk h.r (h.l ^^^ feistel h.r (subkey sk n) ^^^ feistel h.r (subkey sk n)) = _
  rw [xor_xor_cancel_right]
  rfl

/-- R224, R226: the halves of a final block are the halves it was made of, exchanged. -/
theorem desInitial_desFinal (h : Halves) : desInitial (desFinal h) = h.swap := by
  simp only [desInitial, desFinal, permute_ip_fp, BitVec.extractLsb'_append_eq_left, BitVec.extractLsb'_append_eq_right]
  rfl

/-- R224, R226: and the final block of exchanged initial halves is the block. -/
theorem desFinal_swap_desInitial (b : BitVec 64) : desFinal (desInitial b).swap = b := by
  show permute 64 ((permute 64 b ipTable).extractLsb' 32 32 ++ (permute 64 b ipTable).extractLsb' 0 32) fpTable = b
  rw [BitVec.extractLsb'_append_extractLsb', permute_fp_ip]

/-- R228: the rounds in the reverse order undo the rounds, whatever the subkeys. -/
theorem desFinal_desRounds_reverse (sk : Vector Subkey 16) (ns : List Nat) (b : BitVec 64) :
    desFinal (desRounds sk ns.reverse (desFinal (desRounds sk ns b))) = b := by
  have hundo : ns.reverse.foldl (desRound sk) (ns.foldl (desRound sk) (desInitial b)).swap = (desInitial b).swap :=
    foldl_reverse_undo (φ := Halves.swap) (fun n _ h => desRound_swap_desRound sk h n) (desInitial b)
  rw [desRounds, desInitial_desFinal, desRounds, hundo, desFinal_swap_desInitial]

/-- R228: a block transform followed by the one with the subkeys in the reverse order restores BLK. -/
theorem desTransform_desTransform_reverse (s : State) (ns : List Nat) :
    ((s.desTransform ns).succeeded.desTransform ns.reverse).blk = s.blk := by
  show withDesBlock (withDesBlock s.blk (desFinal (desRounds s.sk ns (desBlock s.blk))))
    (desFinal (desRounds s.sk ns.reverse (desBlock (withDesBlock s.blk (desFinal (desRounds s.sk ns (desBlock s.blk))))))) = s.blk
  rw [desBlock_withDesBlock, desFinal_desRounds_reverse]
  exact withDesBlock_desBlock s.blk

/-! PROOFS. The DES key schedule (42_des.md R208, R219). -/

/-- R219: bit `i` of a half rotated left. -/
theorem getLsbD_rotateLeft_half (c : BitVec 28) (r : Nat) {i : Nat} (hi : i < 28) :
    (c.rotateLeft r).getLsbD i = c.getLsbD ((i + (28 - r % 28)) % 28) := by
  rw [BitVec.getLsbD_rotateLeft]
  by_cases h : i < r % 28
  · rw [decide_eq_true h, cond_true]
    congr 1
    omega
  · rw [decide_eq_false h, decide_eq_true hi, cond_false, Bool.true_and]
    congr 1
    omega

/-- R219: rotations of a half add up. -/
theorem rotateLeft_rotateLeft_half (c : BitVec 28) (a b : Nat) : (c.rotateLeft a).rotateLeft b = c.rotateLeft (a + b) := by
  apply BitVec.eq_of_getLsbD_eq
  intro i hi
  rw [getLsbD_rotateLeft_half _ _ hi, getLsbD_rotateLeft_half _ _ (by omega), getLsbD_rotateLeft_half _ _ hi]
  congr 1
  omega

/-- R219: the subkeys in closed form: each half rotated by the sum of the shifts so far. -/
theorem getD_subkeysFrom (c d : BitVec 28) (ns : List Nat) {k : Nat} (hk : k < ns.length) :
    (subkeysFrom c d ns).getD k 0 =
      permute 48 (c.rotateLeft (ns.take (k + 1)).sum ++ d.rotateLeft (ns.take (k + 1)).sum) pc2Table := by
  induction ns generalizing c d k with
  | nil => exact absurd hk (Nat.not_lt_zero k)
  | cons n ns ih =>
    rw [subkeysFrom, List.take_succ_cons, List.sum_cons]
    cases k with
    | zero => simp
    | succ k =>
      rw [List.getD_cons_succ, ih _ _ (by simpa using hk), rotateLeft_rotateLeft_half, rotateLeft_rotateLeft_half]

/-- R45, R219: subkey `n` of a key. -/
theorem subkey_desSubkeys (k64 : BitVec 64) {n : Nat} (h1 : 1 ≤ n) (h16 : n ≤ 16) :
    subkey (desSubkeys k64) n = permute 48
      (((permute 56 k64 pc1Table).extractLsb' 28 28).rotateLeft (shiftTable.take n).sum ++
        ((permute 56 k64 pc1Table).extractLsb' 0 28).rotateLeft (shiftTable.take n).sum) pc2Table := by
  have hlen : n - 1 < shiftTable.length := by
    show n - 1 < 16
    omega
  unfold subkey desSubkeys
  rw [getD_tabulate 16 _ _ _ (by omega), getD_subkeysFrom _ _ _ hlen, Nat.sub_add_cancel h1]

/-- R206: PC-1 selects no parity bit: every position it names is a bit the mask of the other bits has. -/
theorem pc1Table_no_parity : ∀ p ∈ pc1Table, (0xFEFEFEFEFEFEFEFE#64).getLsbD (64 - p) = true := by decide

/-- R219: keys that differ in parity bits only have the same subkeys. -/
theorem desSubkeys_congr {k k' : BitVec 64} (h : (k ^^^ k') &&& 0xFEFEFEFEFEFEFEFE#64 = 0) : desSubkeys k = desSubkeys k' := by
  have hpc1 : permute 56 k pc1Table = permute 56 k' pc1Table := permute_congr fun p hp => by
    have hbit := congrArg (fun v : BitVec 64 => v.getLsbD (64 - p)) h
    simpa [pc1Table_no_parity p hp] using hbit
  rw [desSubkeys, hpc1]
  rfl

/-! PROOFS. The statements of 42_des.md. -/

/-- Settles O36: position `j` from the start is position `m - 1 - j` from the end. -/
theorem permuteSelectsInputPositions : Obligations.PermuteSelectsInputPositions := by
  intro w m x t ht j hj
  rw [getLsbD_permute x t (by omega) (by omega)]
  congr 2
  rw [List.getD_eq_getElem _ _ (by rw [List.length_reverse]; omega), List.getElem_reverse]
  congr 1
  omega

/-- R221: DES.KEYSCHED with an accepted key length. -/
theorem exec_desKeysched {s : State} (h : s.keylen = 8) : exec .desKeysched s = .next (State.succeeded { s with
    sk := desSubkeys (s.key[0] ++ s.key[1]), status := { s.status with desSkv := true } }) :=
  State.require_of_true (by rw [h]; rfl)

/-- Settles O37: the stored subkeys, in closed form. -/
theorem desKeyschedBuildsSubkeys : Obligations.DesKeyschedBuildsSubkeys := fun _ h =>
  ⟨_, exec_desKeysched h, rfl, fun _ h1 h16 => subkey_desSubkeys _ h1 h16⟩

/-- Settles O38: PC-1 drops the parity bits. -/
theorem desParityBitsAffectNoSubkey : Obligations.DesParityBitsAffectNoSubkey := fun _ _ h h' hkeys =>
  ⟨_, _, exec_desKeysched h, exec_desKeysched h', desSubkeys_congr hkeys⟩

section Scheduled

variable {s : State}

/-- R222, R223: the whole-block commands with a schedule loaded. -/
theorem exec_desEncblk (h : s.status.desSkv = true) : exec .desEncblk s = .next (s.desTransform encOrder).succeeded :=
  State.require_of_true h

theorem exec_desDecblk (h : s.status.desSkv = true) : exec .desDecblk s = .next (s.desTransform decOrder).succeeded :=
  State.require_of_true h

/-- R225: a round with a schedule loaded and a subkey number in range. -/
theorem exec_desRound {n : Byte} (h : s.status.desSkv = true) (h1 : 1 ≤ n.toNat) (h16 : n.toNat ≤ 16) :
    exec (.desRound n) s = .next (s.withHalves (desRound s.sk s.halves n.toNat)).succeeded :=
  (State.require_of_true h).trans (State.require_of_true (by simp [subkeyOk, h1, h16]))

/-- R225: the command of a round, on a state that holds halves. -/
theorem exec_desRound_withHalves (h : s.status.desSkv = true) {n : Nat} (hn : n ∈ List.range' 1 16) (hv : Halves) :
    exec (.desRound (BitVec.ofNat 8 n)) (s.withHalves hv).succeeded = .next (s.withHalves (desRound s.sk hv n)).succeeded := by
  obtain ⟨h1, h17⟩ : 1 ≤ n ∧ n < 17 := List.mem_range'_1.mp hn
  have hto : (BitVec.ofNat 8 n).toNat = n := by rw [BitVec.toNat_ofNat, Nat.mod_eq_of_lt (by omega)]
  rw [exec_desRound (s := (s.withHalves hv).succeeded) h (by omega) (by omega), hto]
  rfl

end Scheduled

/-- R220, R226: BLK0:BLK1 after a block transform is FP of R:L. -/
theorem desTransform_blk (s : State) (ns : List Nat) :
    (s.desTransform ns).blk[0] ++ (s.desTransform ns).blk[1] =
      permute 64 ((s.desTransform ns).desr ++ (s.desTransform ns).desl) fpTable :=
  desBlock_withDesBlock s.blk (desFinal (desRounds s.sk ns (desBlock s.blk)))

/-- Settles O39: the ready flag is the only check; the block transform writes the halves and BLK0:BLK1. -/
theorem desBlockCommandsComplete : Obligations.DesBlockCommandsComplete := fun s h =>
  ⟨⟨_, exec_desEncblk h, rfl, rfl, desTransform_blk s encOrder, rfl, rfl⟩,
    ⟨_, exec_desDecblk h, rfl, rfl, desTransform_blk s decOrder, rfl, rfl⟩⟩

/-- Settles O40: each step command by its own checks. -/
theorem desStepCommandsComplete : Obligations.DesStepCommandsComplete := fun _ _ =>
  ⟨rfl, rfl, fun h h1 h16 => ⟨exec_desRound h h1 h16,
    (State.require_of_true h).trans (State.require_of_true (by simp [subkeyOk, h1, h16]))⟩⟩

/-- R220: DES.IP, the rounds of a list and DES.FP are the block transform. -/
theorem runCommands_desSteps {s : State} (h : s.status.desSkv = true) {ns : List Nat} (hns : ∀ n ∈ ns, n ∈ List.range' 1 16) :
    runCommands ([.desIp] ++ ns.map (fun n => .desRound (BitVec.ofNat 8 n)) ++ [.desFp]) s =
      .next (s.desTransform ns).succeeded := by
  have hrounds := runCommands_map (fun n hn hv => exec_desRound_withHalves h (hns n hn) hv) (desInitial (desBlock s.blk))
  have hip : exec .desIp s = .next (s.withHalves (desInitial (desBlock s.blk))).succeeded := rfl
  rw [List.append_assoc, List.singleton_append, runCommands_cons hip, runCommands_append hrounds, runCommands_singleton]
  rfl

/-- Settles O41: the two orders of the subkeys. -/
theorem desBlockCommandsEqualRoundCommands : Obligations.DesBlockCommandsEqualRoundCommands := fun _ h =>
  ⟨(runCommands_desSteps h fun _ hn => hn).trans (exec_desEncblk h).symm,
    (runCommands_desSteps h fun _ hn => List.mem_reverse.mp hn).trans (exec_desDecblk h).symm⟩

/-- Settles O42: each order is the reverse of the other. -/
theorem desEncryptDecryptRestoresBlock : Obligations.DesEncryptDecryptRestoresBlock := by
  intro s h
  refine ⟨⟨_, _, exec_desEncblk h, exec_desDecblk h, desTransform_desTransform_reverse s encOrder, rfl, rfl⟩,
    ⟨_, _, exec_desDecblk h, exec_desEncblk h, ?_, rfl, rfl⟩⟩
  have hrev := desTransform_desTransform_reverse s decOrder
  rwa [show decOrder.reverse = encOrder from List.reverse_reverse _] at hrev

end Sys2Proof.Machine

namespace Sys2Proof.Machine

/-! PROOFS. CC.INIT's layout (44_chacha20.md R262, R264, R265). -/

/-- R14, R36: a key byte is a byte of the key word that holds it. -/
theorem keyByte_eq_laneByte (key : Vector Word 8) (i : Fin 8) {j : Nat} (hj : j < 4) :
    keyByte key (4 * i.val + j) = laneByte key[i] j := by
  have hdiv : (4 * i.val + j) / 4 = i.val := by omega
  have hmod : (4 * i.val + j) % 4 = j % 4 := by omega
  rw [keyByte, hdiv, getD_eq_get, laneByte, hmod, laneByte]

/-- R14, R38: a nonce byte is a byte of the nonce word that holds it. -/
theorem nonceByte_eq_laneByte (nonce : Vector Word 3) (i : Fin 3) {j : Nat} (hj : j < 4) :
    nonceByte nonce (4 * i.val + j) = laneByte nonce[i] j := by
  have hdiv : (4 * i.val + j) / 4 = i.val := by omega
  have hmod : (4 * i.val + j) % 4 = j % 4 := by omega
  rw [nonceByte, hdiv, getD_eq_get, laneByte, hmod, laneByte]

/-- R262: a word packed from its bytes in the opposite order is byte-swapped. -/
theorem packBytes_reverse (w : Word) : packBytes (laneByte w 3) (laneByte w 2) (laneByte w 1) (laneByte w 0) = byteswap32 w := by
  apply BitVec.eq_of_getLsbD_eq
  intro i hi
  rw [byteswap32, BitVec.getLsbD_append, BitVec.getLsbD_append, BitVec.getLsbD_append]
  interval_cases i <;> simp [laneByte, packBytes]

/-- R265: the word that CC.INIT makes of the four bytes of a register. -/
def orderedWord (o : WordOrder) (w : Word) : Word :=
  match o with
  | .le => byteswap32 w
  | .be => w

theorem chachaWord_laneByte (o : WordOrder) (w : Word) :
    chachaWord o (laneByte w 0) (laneByte w 1) (laneByte w 2) (laneByte w 3) = orderedWord o w := by
  cases o with
  | le => exact packBytes_reverse w
  | be => exact packBytes_laneByte w

/-- R262: the key words of the state. -/
theorem chachaKeyWord_eq (o : WordOrder) (key : Vector Word 8) (i : Fin 8) : chachaKeyWord o key i.val = orderedWord o key[i] := by
  rw [chachaKeyWord, keyByte_eq_laneByte key i (by decide : 1 < 4), keyByte_eq_laneByte key i (by decide : 2 < 4),
    keyByte_eq_laneByte key i (by decide : 3 < 4)]
  exact (congrArg (chachaWord o · _ _ _) (keyByte_eq_laneByte key i (by decide : 0 < 4))).trans (chachaWord_laneByte o _)

/-- R264: the nonce words of the state. -/
theorem chachaNonceWord_eq (o : WordOrder) (nonce : Vector Word 3) (i : Fin 3) :
    chachaNonceWord o nonce i.val = orderedWord o nonce[i] := by
  rw [chachaNonceWord, nonceByte_eq_laneByte nonce i (by decide : 1 < 4), nonceByte_eq_laneByte nonce i (by decide : 2 < 4),
    nonceByte_eq_laneByte nonce i (by decide : 3 < 4)]
  exact (congrArg (chachaWord o · _ _ _) (nonceByte_eq_laneByte nonce i (by decide : 0 < 4))).trans (chachaWord_laneByte o _)

/-- R262, R264: where the key and the nonce words stand. -/
theorem chachaInit_key (o : WordOrder) (key : Vector Word 8) (ctr : Word) (nonce : Vector Word 3) (i : Fin 8) :
    (chachaInit o key ctr nonce)[4 + i.val] = orderedWord o key[i] := by
  rw [← chachaKeyWord_eq]
  fin_cases i <;> rfl

theorem chachaInit_nonce (o : WordOrder) (key : Vector Word 8) (ctr : Word) (nonce : Vector Word 3) (i : Fin 3) :
    (chachaInit o key ctr nonce)[13 + i.val] = orderedWord o nonce[i] := by
  rw [← chachaNonceWord_eq]
  fin_cases i <;> rfl

/-! PROOFS. The quarter-round word by word (44_chacha20.md R266, R267). -/

section ArxStep

variable (x : Words16) {p q t : Fin 16} (k : Nat)

/-- R267: what one step leaves in the word it adds to, in the word it rotates, and in the others. -/
theorem arxStep_sum (hpt : p ≠ t) : (arxStep x p q t k)[p] = x[p] + x[q] := by
  simp [arxStep, Fin.val_ne_of_ne hpt, (Fin.val_ne_of_ne hpt).symm]

theorem arxStep_rot (hpt : p ≠ t) : (arxStep x p q t k)[t] = (x[t] ^^^ (x[p] + x[q])).rotateLeft k := by
  simp [arxStep, Fin.val_ne_of_ne hpt]

theorem arxStep_other {i : Fin 16} (hp : i ≠ p) (ht : i ≠ t) : (arxStep x p q t k)[i] = x[i] := by
  simp [arxStep, (Fin.val_ne_of_ne hp).symm, (Fin.val_ne_of_ne ht).symm]

end ArxStep

/-- R266: a group names four different words. -/
theorem qrGroup_distinct : ∀ g : Fin 8, (qrGroup g).a ≠ (qrGroup g).b ∧ (qrGroup g).a ≠ (qrGroup g).c ∧
    (qrGroup g).a ≠ (qrGroup g).d ∧ (qrGroup g).b ≠ (qrGroup g).c ∧ (qrGroup g).b ≠ (qrGroup g).d ∧
    (qrGroup g).c ≠ (qrGroup g).d := by
  decide

/-- R267: the quarter-round written out word by word; each step reads what the ones before it have left. -/
theorem quarterRound_words (x : Words16) (g : Fin 8) :
    let q := qrGroup g
    let a1 := x[q.a] + x[q.b]
    let d1 := (x[q.d] ^^^ a1).rotateLeft 16
    let c1 := x[q.c] + d1
    let b1 := (x[q.b] ^^^ c1).rotateLeft 12
    let a2 := a1 + b1
    let d2 := (d1 ^^^ a2).rotateLeft 8
    let c2 := c1 + d2
    let b2 := (b1 ^^^ c2).rotateLeft 7
    (quarterRound x q)[q.a] = a2 ∧ (quarterRound x q)[q.b] = b2 ∧ (quarterRound x q)[q.c] = c2 ∧
      (quarterRound x q)[q.d] = d2 ∧
      ∀ i : Fin 16, i ≠ q.a → i ≠ q.b → i ≠ q.c → i ≠ q.d → (quarterRound x q)[i] = x[i] := by
  intro q
  obtain ⟨hab, hac, had, hbc, hbd, hcd⟩ : q.a ≠ q.b ∧ q.a ≠ q.c ∧ q.a ≠ q.d ∧ q.b ≠ q.c ∧ q.b ≠ q.d ∧ q.c ≠ q.d :=
    qrGroup_distinct g
  refine ⟨?a, ?b, ?c, ?d, fun i ha hb hc hd => ?other⟩
  case other => simp only [quarterRound, arxStep_other, ha, hb, hc, hd, ne_eq, not_false_eq_true]
  all_goals simp only [quarterRound, arxStep_sum, arxStep_rot, arxStep_other, hab, hac, had, hbd, hcd, hab.symm, hac.symm,
    hbc.symm, hbd.symm, hcd.symm, ne_eq, not_false_eq_true]

/-! PROOFS. The quarter-round and the double round are bijections (44_chacha20.md R267, R268). -/

/-- Rotating right undoes rotating left, and the reverse. -/
theorem rotateRight_rotateLeft {w : Nat} (v : BitVec w) (k : Nat) : (v.rotateLeft k).rotateRight k = v := by
  apply BitVec.eq_of_getLsbD_eq
  intro i hi
  have hk : k % w < w := Nat.mod_lt k (by omega)
  rw [BitVec.getLsbD_rotateRight]
  by_cases h : i < w - k % w
  · rw [decide_eq_true h, cond_true, BitVec.getLsbD_rotateLeft, decide_eq_false (by omega), cond_false,
      decide_eq_true (by omega), Bool.true_and, Nat.add_sub_cancel_left]
  · rw [decide_eq_false h, cond_false, decide_eq_true hi, Bool.true_and, BitVec.getLsbD_rotateLeft,
      decide_eq_true (by omega), cond_true]
    congr 1
    omega

theorem rotateLeft_rotateRight {w : Nat} (v : BitVec w) (k : Nat) : (v.rotateRight k).rotateLeft k = v := by
  apply BitVec.eq_of_getLsbD_eq
  intro i hi
  have hk : k % w < w := Nat.mod_lt k (by omega)
  rw [BitVec.getLsbD_rotateLeft]
  by_cases h : i < k % w
  · rw [decide_eq_true h, cond_true, BitVec.getLsbD_rotateRight, decide_eq_false (by omega), cond_false,
      decide_eq_true (by omega), Bool.true_and, Nat.add_sub_cancel_left]
  · rw [decide_eq_false h, cond_false, decide_eq_true hi, Bool.true_and, BitVec.getLsbD_rotateRight,
      decide_eq_true (by omega), cond_true]
    congr 1
    omega

/-- Writing one word by a map of its own value that the other words choose and that can be undone is a bijection. -/
theorem bijective_set {p : Fin 16} {e e' : Words16 → Word → Word} (he : ∀ x v, e (x.set p v) = e x)
    (he' : ∀ x v, e' (x.set p v) = e' x) (hl : ∀ x v, e' x (e x v) = v) (hr : ∀ x v, e x (e' x v) = v) :
    Function.Bijective fun x : Words16 => x.set p (e x x[p]) := by
  refine Function.bijective_iff_has_inverse.mpr ⟨fun x => x.set p (e' x x[p]), fun x => ?_, fun x => ?_⟩
  · simp [he', hl]
  · simp [he, hr]

/-- R267: one step of a quarter-round is a bijection: an addition and then a rotation, each of a word that does not choose it. -/
theorem arxStep_bijective {p q t : Fin 16} (hpq : p ≠ q) (hpt : p ≠ t) (k : Nat) :
    Function.Bijective fun x : Words16 => arxStep x p q t k := by
  have hadd : Function.Bijective fun x : Words16 => x.set p (x[p] + x[q]) :=
    bijective_set (e := fun x v => v + x[q]) (e' := fun x v => v - x[q])
      (fun x v => by simp [Fin.val_ne_of_ne hpq]) (fun x v => by simp [Fin.val_ne_of_ne hpq])
      (fun x v => BitVec.add_sub_cancel v _) (fun x v => BitVec.sub_add_cancel v _)
  have hrot : Function.Bijective fun x : Words16 => x.set t ((x[t] ^^^ x[p]).rotateLeft k) :=
    bijective_set (e := fun x v => (v ^^^ x[p]).rotateLeft k) (e' := fun x v => v.rotateRight k ^^^ x[p])
      (fun x v => by simp [(Fin.val_ne_of_ne hpt).symm]) (fun x v => by simp [(Fin.val_ne_of_ne hpt).symm])
      (fun x v => by rw [rotateRight_rotateLeft, xor_xor_cancel_right])
      (fun x v => by rw [xor_xor_cancel_right, rotateLeft_rotateRight])
  exact hrot.comp hadd

/-- R267: so is a quarter-round on a group. -/
theorem quarterRound_bijective (g : Fin 8) : Function.Bijective fun x : Words16 => quarterRound x (qrGroup g) := by
  obtain ⟨hab, hac, had, hbc, hbd, hcd⟩ := qrGroup_distinct g
  exact (arxStep_bijective hcd hbc.symm 7).comp <| (arxStep_bijective hab had 8).comp <|
    (arxStep_bijective hcd hbc.symm 12).comp (arxStep_bijective hab had 16)

/-- Bijections applied one after the other. -/
theorem bijective_foldl {α β : Type} {f : α → β → α} (h : ∀ b, Function.Bijective fun a => f a b) (bs : List β) :
    Function.Bijective fun a => bs.foldl f a := by
  induction bs with
  | nil => exact Function.bijective_id
  | cons b bs ih => exact ih.comp (h b)

/-! PROOFS. The statements of 44_chacha20.md. -/

/-- Settles O46: both lengths are accepted, and the words stand where R260 to R264 put them. -/
theorem ccInitBuildsState : Obligations.CcInitBuildsState := by
  intro s hk hiv
  have hkey : ccKeyLenOk s.keylen = true := by rw [hk]; rfl
  have hivOk : ccIvLenOk s.ivlen = true := by rw [hiv]; rfl
  refine ⟨_, (State.require_of_true hkey).trans (State.require_of_true hivOk), rfl, rfl, rfl, rfl, rfl, rfl,
    fun i h => ?_, fun i h => ?_⟩
  · exact (chachaInit_key s.params.wordOrder s.key s.ctr s.nonce ⟨i, h⟩).trans rfl
  · exact (chachaInit_nonce s.params.wordOrder s.key s.ctr s.nonce ⟨i, h⟩).trans rfl

/-- R272: CC.QR on a group number. -/
theorem exec_ccQr (s : State) {g : Byte} (h : g.toNat < 8) :
    exec (.ccQr g) s = .next (s.withX (quarterRound s.x (qrGroup ⟨g.toNat, h⟩))).succeeded := by
  have hg : (Fin.ofNat 8 g.toNat : Fin 8) = ⟨g.toNat, h⟩ := Fin.ext (Nat.mod_eq_of_lt h)
  rw [← hg]
  exact State.require_of_true (decide_eq_true (Nat.le_of_lt_succ h))

/-- Settles O47: CC.QR writes the quarter-round of its group. -/
theorem ccQrMixesOneGroup : Obligations.CcQrMixesOneGroup := fun s _ h =>
  ⟨_, exec_ccQr s h, rfl, quarterRound_words s.x ⟨_, h⟩⟩

/-- R273: CC.QR on the groups of a list. -/
theorem runCommands_ccQr (s : State) (g : Fin 8) (gs : List (Fin 8)) :
    runCommands ((g :: gs).map fun g => .ccQr (BitVec.ofNat 8 g.val)) s =
      .next (s.withX ((g :: gs).foldl (fun y g => quarterRound y (qrGroup g)) s.x)).succeeded := by
  have hexec : ∀ (u : State) (g : Fin 8), exec (.ccQr (BitVec.ofNat 8 g.val)) u =
      .next (u.withX (quarterRound u.x (qrGroup g))).succeeded := fun u g => by
    have hto : (BitVec.ofNat 8 g.val).toNat = g.val := by rw [BitVec.toNat_ofNat, Nat.mod_eq_of_lt (by omega)]
    rw [exec_ccQr u (hto.symm ▸ g.isLt)]
    simp only [hto]
  rw [List.map_cons, runCommands_cons (hexec s g)]
  exact runCommands_map (emb := fun x => (s.withX x).succeeded) (fun g _ x => hexec (s.withX x).succeeded g) _

/-- Settles O48: the groups in the order the parameter gives. -/
theorem ccDroundEqualsQuarterRounds : Obligations.CcDroundEqualsQuarterRounds := by
  intro s
  refine ⟨_, rfl, rfl, ?_⟩
  show _ = Host.Outcome.next (s.withX (doubleRound s.params.qrOrder s.x)).succeeded
  cases s.params.qrOrder with
  | standard => exact runCommands_ccQr s 0 [1, 2, 3, 4, 5, 6, 7]
  | listed => exact runCommands_ccQr s 4 [5, 6, 7, 0, 1, 2, 3]

/-- R269: double rounds by their commands. -/
theorem runCommands_replicate_ccDround (s : State) (k : Nat) (x : Words16) :
    runCommands (List.replicate k .ccDround) (s.withX x).succeeded =
      .next (s.withX (doubleRounds s.params.qrOrder k x)).succeeded := by
  induction k generalizing x with
  | zero => rfl
  | succ k ih =>
    have hexec : exec .ccDround (s.withX x).succeeded = .next (s.withX (doubleRound s.params.qrOrder x)).succeeded := rfl
    rw [List.replicate_succ, runCommands_cons hexec, ih]
    rfl

/-- Settles O49: the first double round, the other nine, and the feed-forward if it is on. -/
theorem ccBlockEqualsDoubleRounds : Obligations.CcBlockEqualsDoubleRounds := by
  intro s
  refine ⟨_, rfl, rfl, ?_⟩
  have hfirst : exec .ccDround s = .next (s.withX (doubleRound s.params.qrOrder s.x)).succeeded := rfl
  have hrounds : runCommands (List.replicate 10 .ccDround) s =
      .next (s.withX (doubleRounds s.params.qrOrder 10 s.x)).succeeded := by
    rw [List.replicate_succ, runCommands_cons hfirst, runCommands_replicate_ccDround]
    rfl
  rw [runCommands_append hrounds]
  show _ = Host.Outcome.next (s.withX (chachaBlock s.params s.x s.xi)).succeeded
  unfold chachaBlock
  cases s.params.feedForward <;> rfl

/-- Settles O50: every word of X has the word of XI added. -/
theorem ccFeedfwdAddsInitialState : Obligations.CcFeedfwdAddsInitialState := by
  intro s
  refine ⟨_, rfl, rfl, fun i => ?_⟩
  show (addWords s.x s.xi)[i.val] = _
  rw [addWords, getElem_tabulate, getD_eq_get, getD_eq_get]

/-- Settles O51: a double round is eight quarter-rounds, each of them a bijection. -/
theorem quarterAndDoubleRoundAreBijective : Obligations.QuarterAndDoubleRoundAreBijective :=
  ⟨quarterRound_bijective, fun o => bijective_foldl quarterRound_bijective (groupOrder o)⟩

end Sys2Proof.Machine
